-- ==== Sys2Proof/Word.lean ====
section
/-! DEFINITION. The words of the machine: a general register holds 64 bits (10_state.md R21), class ALU
works on 32 bits (40_alu32.md R100), data memory is bytes (20_memory.md R40). -/

namespace Sys2Proof

/-- A 64-bit register value, a data address, or a slot of program text. -/
abbrev Word := BitVec 64

/-- A 32-bit operand, and the fields `imm` and `next_imm` (30_encoding.md R61, R66). -/
abbrev Word32 := BitVec 32

/-- The 16-bit field `offset` (30_encoding.md R61). -/
abbrev Word16 := BitVec 16

/-- One byte of data memory (20_memory.md R40). -/
abbrev Byte := BitVec 8

end Sys2Proof
end

