-- ==== Sys2Proof/Config.lean ====
section
/-! DEFINITION. The parameters the specification leaves to the platform (00_scope.md R7): as plain data where a
run fixes them (`Platform`), as constants with no body where a value is left free. -/

namespace Sys2Proof

/-- `HOST_ENDIAN` (00_scope.md R7, 20_memory.md R43). -/
inductive Endian where
  | little
  | big
  deriving DecidableEq, Repr

/-- The seven conformance groups (00_scope.md R3). -/
inductive Group where
  | base32
  | base64
  | atomic32
  | atomic64
  | divmul32
  | divmul64
  | packet
  deriving DecidableEq, Repr

/-- How a helper is named: by static ID or by BTF ID (43_jump.md R252, R254). -/
inductive HelperKind where
  | static
  | btf
  deriving DecidableEq, Repr

/-- The kinds of data access `MemAdmit` tells apart (20_memory.md R46). -/
inductive AccessKind where
  | read
  | write
  | atomic
  deriving DecidableEq, Repr

/-- The kinds of platform object a 64-bit immediate instruction can miss (60_exceptions.md R341 row 7). -/
inductive ObjectKind where
  | mapFd
  | mapIndex
  | variableId
  | code
  deriving DecidableEq, Repr

/-- One region of data memory the platform gave the program (20_memory.md R41, R46): `size` bytes from `base`. An
access to it may be of a kind whose mark is true and of a width, in bytes, that `widths` lists. `shared` marks bytes
that other agents may write (R56). `frame := some k` marks the stack frame of call depth `k`, in force while that
depth is the current one or a caller's. -/
structure Region where
  base : Word
  size : Nat
  read : Bool
  write : Bool
  atomic : Bool
  widths : List Nat
  shared : Bool
  frame : Option Nat
  deriving DecidableEq, Repr

/-- `ENTRY`, the values the platform sets at entry (00_scope.md R7, 10_state.md R35): the context address for `x[1]`,
and values for `x[2]` to `x[5]` where it supplies them. `ENTRY.fp` is `FrameFor(0)` (R35), so it has no place here. -/
structure Entry where
  ctx : Word
  x2 : Option Word
  x3 : Option Word
  x4 : Option Word
  x5 : Option Word
  deriving DecidableEq, Repr

/-- The configuration of a run (00_scope.md R7). No step changes it. -/
structure Platform where
  /-- `HOST_ENDIAN` -/
  hostEndian : Endian
  /-- `GROUPS` -/
  groups : List Group
  /-- `STRICT_UNUSED` -/
  strictUnused : Bool
  /-- `ALIGN_REQUIRED` -/
  alignRequired : Bool
  /-- Which reading of 10_state.md R24 is in force: `true` raises UnwrittenRegister, `false` draws an arbitrary
  value (log 5). -/
  unwrittenRaises : Bool
  /-- `ENTRY` -/
  entry : Entry
  /-- `MAX_CALL_DEPTH`; `none` is unbounded. -/
  maxCallDepth : Option Nat
  /-- `FrameFor` at depths 0, 1, 2, ... (log 8). -/
  frames : List Word
  /-- `MemAdmit`, as regions (log 9). -/
  regions : List Region
  /-- The helpers the platform exposes (43_jump.md R252, R254). -/
  helpers : List (HelperKind × Word32)
  /-- `map_by_fd` (46_imm64.md R307). -/
  mapsByFd : List (Word32 × Word)
  /-- `map_by_idx` (46_imm64.md R307). -/
  mapsByIdx : List (Word32 × Word)
  /-- `map_val`, by the address of a map (46_imm64.md R307). -/
  mapVals : List (Word × Word)
  /-- `var_addr` (46_imm64.md R307). -/
  vars : List (Word32 × Word)
  /-- `code_addr`, by slot index (46_imm64.md R307). -/
  codeAddrs : List (Nat × Word)
  deriving DecidableEq, Repr

/-- One outcome a helper call may have (43_jump.md R252). -/
inductive HelperOutcome where
  /-- The helper returns: the value for `x[0]`, and the bytes it stored, in order. -/
  | returns (result : Word) (writes : List (Word × Byte))
  /-- The helper raises a fault of the platform's own, known by a code. -/
  | faults (code : Nat)
  /-- The helper has not returned yet; a helper that never returns is an infinite run. -/
  | stillRunning
  deriving DecidableEq, Repr, Inhabited

namespace Config

/-- FREE VALUE (log 5). What a read of an unwritten register draws at step `tick` in operand position `pos`
(10_state.md R24). -/
opaque unwrittenValue (tick pos : Nat) : Word

/-- FREE VALUE (log 13). What a byte of data memory holds that neither the instance nor a helper has stored
(20_memory.md R56, 70_reset_and_hazards.md R361). -/
opaque initialByte (addr : Nat) : Byte

/-- FREE VALUE (log 14). `Oracle` (20_memory.md R56): the byte another agent has put at `addr` when step `tick`
reads it, or none where the instance's own latest store is read. -/
opaque oracle (tick addr : Nat) : Option Byte

/-- FREE VALUE (log 12). `HelperCall` (43_jump.md R252): the outcome, at step `tick`, of helper `id` of the given
kind on the argument cells `x[1]` to `x[5]` (none where unwritten) and the stored bytes of data memory. -/
opaque helperCall (tick : Nat) (kind : HelperKind) (id : Word32) (args : List (Option Word))
    (mem : List (Nat × Byte)) : HelperOutcome

/-- FREE VALUE (log 8). `FrameFor` at a depth past the platform's list. -/
opaque frameBeyond (depth : Nat) : Word

end Config

end Sys2Proof
end

