-- ==== Sys2Proof/Machine/Bytes.lean ====
section
/-! DEFINITION. Byte order: the reversals of 00_scope.md R9, and a value as bytes in host order
(20_memory.md R43 to R45). -/

namespace Sys2Proof

/-- `bswap16` (00_scope.md R9). -/
def bswap16 (v : BitVec 16) : BitVec 16 :=
  v.extractLsb' 0 8 ++ v.extractLsb' 8 8

/-- `bswap32` (00_scope.md R9). -/
def bswap32 (v : Word32) : Word32 :=
  v.extractLsb' 0 8 ++ v.extractLsb' 8 8 ++ v.extractLsb' 16 8 ++ v.extractLsb' 24 8

/-- `bswap64` (00_scope.md R9). -/
def bswap64 (v : Word) : Word :=
  v.extractLsb' 0 8 ++ v.extractLsb' 8 8 ++ v.extractLsb' 16 8 ++ v.extractLsb' 24 8 ++
    v.extractLsb' 32 8 ++ v.extractLsb' 40 8 ++ v.extractLsb' 48 8 ++ v.extractLsb' 56 8

/-- `le16` or `be16`: the identity where the host already has the order asked for, the reversal where it has
the other (00_scope.md R9, 42_byteswap.md R182). -/
def toOrder16 (host order : Endian) (v : BitVec 16) : BitVec 16 :=
  if host = order then v else bswap16 v

/-- `le32` or `be32` (00_scope.md R9). -/
def toOrder32 (host order : Endian) (v : Word32) : Word32 :=
  if host = order then v else bswap32 v

/-- `le64` or `be64` (00_scope.md R9). -/
def toOrder64 (host order : Endian) (v : Word) : Word :=
  if host = order then v else bswap64 v

/-- The low `n` bytes of a value, least significant first. -/
def leBytes : Nat → Word → List Byte
  | 0, _ => []
  | n + 1, v => v.setWidth 8 :: leBytes n (v >>> 8)

/-- The value of bytes listed least significant first. -/
def leValue : List Byte → Word
  | [] => 0#64
  | b :: bs => b.setWidth 64 ||| (leValue bs <<< 8)

/-- The low `n` bytes of `v` in the order of rising addresses (20_memory.md R45). -/
def hostBytes (e : Endian) (n : Nat) (v : Word) : List Byte :=
  match e with
  | .little => leBytes n v
  | .big => (leBytes n v).reverse

/-- The value of bytes given in the order of rising addresses (20_memory.md R44), zero-extended. -/
def hostValue (e : Endian) (bs : List Byte) : Word :=
  match e with
  | .little => leValue bs
  | .big => leValue bs.reverse

end Sys2Proof
end

