-- ==== Sys2Proof/Syntax.lean ====
section
/-! DEFINITION. The instructions: one constructor for each of the 170 rows of spec/opcode_table.json, in the
table's order. A constructor carries the operand fields of its row and nothing else. -/

namespace Sys2Proof

/-- The eleven general registers (10_state.md R21). -/
inductive Reg where
  | r0
  | r1
  | r2
  | r3
  | r4
  | r5
  | r6
  | r7
  | r8
  | r9
  | r10
  deriving DecidableEq, Repr

/-- The instructions. `d` is `dst_reg`, `s` is `src_reg`, `off` is `offset`, `next` is `next_imm`
(30_encoding.md R61, R66). -/
inductive Instr where
  /-- `ADD32_K`, ADD, K, ALU (40_alu32.md R105). -/
  | add32K (d : Reg) (imm : Word32)
  /-- `ADD32_X`, ADD, X, ALU (40_alu32.md R106). -/
  | add32X (d : Reg) (s : Reg)
  /-- `SUB32_K`, SUB, K, ALU (40_alu32.md R107). -/
  | sub32K (d : Reg) (imm : Word32)
  /-- `SUB32_X`, SUB, X, ALU (40_alu32.md R108). -/
  | sub32X (d : Reg) (s : Reg)
  /-- `MUL32_K`, MUL, K, ALU (40_alu32.md R109). -/
  | mul32K (d : Reg) (imm : Word32)
  /-- `MUL32_X`, MUL, X, ALU (40_alu32.md R110). -/
  | mul32X (d : Reg) (s : Reg)
  /-- `DIV32_K`, DIV, K, ALU (40_alu32.md R111). -/
  | div32K (d : Reg) (imm : Word32)
  /-- `DIV32_X`, DIV, X, ALU (40_alu32.md R112). -/
  | div32X (d : Reg) (s : Reg)
  /-- `SDIV32_K`, SDIV, K, ALU (40_alu32.md R113). -/
  | sdiv32K (d : Reg) (imm : Word32)
  /-- `SDIV32_X`, SDIV, X, ALU (40_alu32.md R114). -/
  | sdiv32X (d : Reg) (s : Reg)
  /-- `OR32_K`, OR, K, ALU (40_alu32.md R115). -/
  | or32K (d : Reg) (imm : Word32)
  /-- `OR32_X`, OR, X, ALU (40_alu32.md R116). -/
  | or32X (d : Reg) (s : Reg)
  /-- `AND32_K`, AND, K, ALU (40_alu32.md R117). -/
  | and32K (d : Reg) (imm : Word32)
  /-- `AND32_X`, AND, X, ALU (40_alu32.md R118). -/
  | and32X (d : Reg) (s : Reg)
  /-- `LSH32_K`, LSH, K, ALU (40_alu32.md R119). -/
  | lsh32K (d : Reg) (imm : Word32)
  /-- `LSH32_X`, LSH, X, ALU (40_alu32.md R120). -/
  | lsh32X (d : Reg) (s : Reg)
  /-- `RSH32_K`, RSH, K, ALU (40_alu32.md R121). -/
  | rsh32K (d : Reg) (imm : Word32)
  /-- `RSH32_X`, RSH, X, ALU (40_alu32.md R122). -/
  | rsh32X (d : Reg) (s : Reg)
  /-- `NEG32`, NEG, K, ALU (40_alu32.md R123). -/
  | neg32 (d : Reg)
  /-- `MOD32_K`, MOD, K, ALU (40_alu32.md R124). -/
  | mod32K (d : Reg) (imm : Word32)
  /-- `MOD32_X`, MOD, X, ALU (40_alu32.md R125). -/
  | mod32X (d : Reg) (s : Reg)
  /-- `SMOD32_K`, SMOD, K, ALU (40_alu32.md R126). -/
  | smod32K (d : Reg) (imm : Word32)
  /-- `SMOD32_X`, SMOD, X, ALU (40_alu32.md R127). -/
  | smod32X (d : Reg) (s : Reg)
  /-- `XOR32_K`, XOR, K, ALU (40_alu32.md R128). -/
  | xor32K (d : Reg) (imm : Word32)
  /-- `XOR32_X`, XOR, X, ALU (40_alu32.md R129). -/
  | xor32X (d : Reg) (s : Reg)
  /-- `MOV32_K`, MOV, K, ALU (40_alu32.md R130). -/
  | mov32K (d : Reg) (imm : Word32)
  /-- `MOV32_X`, MOV, X, ALU (40_alu32.md R131). -/
  | mov32X (d : Reg) (s : Reg)
  /-- `MOVSX32_8`, MOVSX, X, ALU (40_alu32.md R132). -/
  | movsx32From8 (d : Reg) (s : Reg)
  /-- `MOVSX32_16`, MOVSX, X, ALU (40_alu32.md R133). -/
  | movsx32From16 (d : Reg) (s : Reg)
  /-- `ARSH32_K`, ARSH, K, ALU (40_alu32.md R134). -/
  | arsh32K (d : Reg) (imm : Word32)
  /-- `ARSH32_X`, ARSH, X, ALU (40_alu32.md R135). -/
  | arsh32X (d : Reg) (s : Reg)
  /-- `ADD64_K`, ADD, K, ALU64 (41_alu64.md R145). -/
  | add64K (d : Reg) (imm : Word32)
  /-- `ADD64_X`, ADD, X, ALU64 (41_alu64.md R146). -/
  | add64X (d : Reg) (s : Reg)
  /-- `SUB64_K`, SUB, K, ALU64 (41_alu64.md R147). -/
  | sub64K (d : Reg) (imm : Word32)
  /-- `SUB64_X`, SUB, X, ALU64 (41_alu64.md R148). -/
  | sub64X (d : Reg) (s : Reg)
  /-- `MUL64_K`, MUL, K, ALU64 (41_alu64.md R149). -/
  | mul64K (d : Reg) (imm : Word32)
  /-- `MUL64_X`, MUL, X, ALU64 (41_alu64.md R150). -/
  | mul64X (d : Reg) (s : Reg)
  /-- `DIV64_K`, DIV, K, ALU64 (41_alu64.md R151). -/
  | div64K (d : Reg) (imm : Word32)
  /-- `DIV64_X`, DIV, X, ALU64 (41_alu64.md R152). -/
  | div64X (d : Reg) (s : Reg)
  /-- `SDIV64_K`, SDIV, K, ALU64 (41_alu64.md R153). -/
  | sdiv64K (d : Reg) (imm : Word32)
  /-- `SDIV64_X`, SDIV, X, ALU64 (41_alu64.md R154). -/
  | sdiv64X (d : Reg) (s : Reg)
  /-- `OR64_K`, OR, K, ALU64 (41_alu64.md R155). -/
  | or64K (d : Reg) (imm : Word32)
  /-- `OR64_X`, OR, X, ALU64 (41_alu64.md R156). -/
  | or64X (d : Reg) (s : Reg)
  /-- `AND64_K`, AND, K, ALU64 (41_alu64.md R157). -/
  | and64K (d : Reg) (imm : Word32)
  /-- `AND64_X`, AND, X, ALU64 (41_alu64.md R158). -/
  | and64X (d : Reg) (s : Reg)
  /-- `LSH64_K`, LSH, K, ALU64 (41_alu64.md R159). -/
  | lsh64K (d : Reg) (imm : Word32)
  /-- `LSH64_X`, LSH, X, ALU64 (41_alu64.md R160). -/
  | lsh64X (d : Reg) (s : Reg)
  /-- `RSH64_K`, RSH, K, ALU64 (41_alu64.md R161). -/
  | rsh64K (d : Reg) (imm : Word32)
  /-- `RSH64_X`, RSH, X, ALU64 (41_alu64.md R162). -/
  | rsh64X (d : Reg) (s : Reg)
  /-- `NEG64`, NEG, K, ALU64 (41_alu64.md R163). -/
  | neg64 (d : Reg)
  /-- `MOD64_K`, MOD, K, ALU64 (41_alu64.md R164). -/
  | mod64K (d : Reg) (imm : Word32)
  /-- `MOD64_X`, MOD, X, ALU64 (41_alu64.md R165). -/
  | mod64X (d : Reg) (s : Reg)
  /-- `SMOD64_K`, SMOD, K, ALU64 (41_alu64.md R166). -/
  | smod64K (d : Reg) (imm : Word32)
  /-- `SMOD64_X`, SMOD, X, ALU64 (41_alu64.md R167). -/
  | smod64X (d : Reg) (s : Reg)
  /-- `XOR64_K`, XOR, K, ALU64 (41_alu64.md R168). -/
  | xor64K (d : Reg) (imm : Word32)
  /-- `XOR64_X`, XOR, X, ALU64 (41_alu64.md R169). -/
  | xor64X (d : Reg) (s : Reg)
  /-- `MOV64_K`, MOV, K, ALU64 (41_alu64.md R170). -/
  | mov64K (d : Reg) (imm : Word32)
  /-- `MOV64_X`, MOV, X, ALU64 (41_alu64.md R171). -/
  | mov64X (d : Reg) (s : Reg)
  /-- `MOVSX64_8`, MOVSX, X, ALU64 (41_alu64.md R172). -/
  | movsx64From8 (d : Reg) (s : Reg)
  /-- `MOVSX64_16`, MOVSX, X, ALU64 (41_alu64.md R173). -/
  | movsx64From16 (d : Reg) (s : Reg)
  /-- `MOVSX64_32`, MOVSX, X, ALU64 (41_alu64.md R174). -/
  | movsx64From32 (d : Reg) (s : Reg)
  /-- `ARSH64_K`, ARSH, K, ALU64 (41_alu64.md R175). -/
  | arsh64K (d : Reg) (imm : Word32)
  /-- `ARSH64_X`, ARSH, X, ALU64 (41_alu64.md R176). -/
  | arsh64X (d : Reg) (s : Reg)
  /-- `LE16`, END, LE, ALU (42_byteswap.md R183). -/
  | le16 (d : Reg)
  /-- `LE32`, END, LE, ALU (42_byteswap.md R184). -/
  | le32 (d : Reg)
  /-- `LE64`, END, LE, ALU (42_byteswap.md R185). -/
  | le64 (d : Reg)
  /-- `BE16`, END, BE, ALU (42_byteswap.md R186). -/
  | be16 (d : Reg)
  /-- `BE32`, END, BE, ALU (42_byteswap.md R187). -/
  | be32 (d : Reg)
  /-- `BE64`, END, BE, ALU (42_byteswap.md R188). -/
  | be64 (d : Reg)
  /-- `BSWAP16`, END, TO, ALU64 (42_byteswap.md R189). -/
  | bswap16 (d : Reg)
  /-- `BSWAP32`, END, TO, ALU64 (42_byteswap.md R190). -/
  | bswap32 (d : Reg)
  /-- `BSWAP64`, END, TO, ALU64 (42_byteswap.md R191). -/
  | bswap64 (d : Reg)
  /-- `JA`, JA, K, JMP (43_jump.md R203). -/
  | ja (off : Word16)
  /-- `JA32`, JA, K, JMP32 (43_jump.md R204). -/
  | ja32 (imm : Word32)
  /-- `JEQ64_K`, JEQ, K, JMP (43_jump_cond.md R205). -/
  | jeq64K (d : Reg) (imm : Word32) (off : Word16)
  /-- `JEQ64_X`, JEQ, X, JMP (43_jump_cond.md R206). -/
  | jeq64X (d : Reg) (s : Reg) (off : Word16)
  /-- `JEQ32_K`, JEQ, K, JMP32 (43_jump_cond.md R207). -/
  | jeq32K (d : Reg) (imm : Word32) (off : Word16)
  /-- `JEQ32_X`, JEQ, X, JMP32 (43_jump_cond.md R208). -/
  | jeq32X (d : Reg) (s : Reg) (off : Word16)
  /-- `JGT64_K`, JGT, K, JMP (43_jump_cond.md R209). -/
  | jgt64K (d : Reg) (imm : Word32) (off : Word16)
  /-- `JGT64_X`, JGT, X, JMP (43_jump_cond.md R210). -/
  | jgt64X (d : Reg) (s : Reg) (off : Word16)
  /-- `JGT32_K`, JGT, K, JMP32 (43_jump_cond.md R211). -/
  | jgt32K (d : Reg) (imm : Word32) (off : Word16)
  /-- `JGT32_X`, JGT, X, JMP32 (43_jump_cond.md R212). -/
  | jgt32X (d : Reg) (s : Reg) (off : Word16)
  /-- `JGE64_K`, JGE, K, JMP (43_jump_cond.md R213). -/
  | jge64K (d : Reg) (imm : Word32) (off : Word16)
  /-- `JGE64_X`, JGE, X, JMP (43_jump_cond.md R214). -/
  | jge64X (d : Reg) (s : Reg) (off : Word16)
  /-- `JGE32_K`, JGE, K, JMP32 (43_jump_cond.md R215). -/
  | jge32K (d : Reg) (imm : Word32) (off : Word16)
  /-- `JGE32_X`, JGE, X, JMP32 (43_jump_cond.md R216). -/
  | jge32X (d : Reg) (s : Reg) (off : Word16)
  /-- `JSET64_K`, JSET, K, JMP (43_jump_cond.md R217). -/
  | jset64K (d : Reg) (imm : Word32) (off : Word16)
  /-- `JSET64_X`, JSET, X, JMP (43_jump_cond.md R218). -/
  | jset64X (d : Reg) (s : Reg) (off : Word16)
  /-- `JSET32_K`, JSET, K, JMP32 (43_jump_cond.md R219). -/
  | jset32K (d : Reg) (imm : Word32) (off : Word16)
  /-- `JSET32_X`, JSET, X, JMP32 (43_jump_cond.md R220). -/
  | jset32X (d : Reg) (s : Reg) (off : Word16)
  /-- `JNE64_K`, JNE, K, JMP (43_jump_cond.md R221). -/
  | jne64K (d : Reg) (imm : Word32) (off : Word16)
  /-- `JNE64_X`, JNE, X, JMP (43_jump_cond.md R222). -/
  | jne64X (d : Reg) (s : Reg) (off : Word16)
  /-- `JNE32_K`, JNE, K, JMP32 (43_jump_cond.md R223). -/
  | jne32K (d : Reg) (imm : Word32) (off : Word16)
  /-- `JNE32_X`, JNE, X, JMP32 (43_jump_cond.md R224). -/
  | jne32X (d : Reg) (s : Reg) (off : Word16)
  /-- `JSGT64_K`, JSGT, K, JMP (43_jump_cond.md R225). -/
  | jsgt64K (d : Reg) (imm : Word32) (off : Word16)
  /-- `JSGT64_X`, JSGT, X, JMP (43_jump_cond.md R226). -/
  | jsgt64X (d : Reg) (s : Reg) (off : Word16)
  /-- `JSGT32_K`, JSGT, K, JMP32 (43_jump_cond.md R227). -/
  | jsgt32K (d : Reg) (imm : Word32) (off : Word16)
  /-- `JSGT32_X`, JSGT, X, JMP32 (43_jump_cond.md R228). -/
  | jsgt32X (d : Reg) (s : Reg) (off : Word16)
  /-- `JSGE64_K`, JSGE, K, JMP (43_jump_cond.md R229). -/
  | jsge64K (d : Reg) (imm : Word32) (off : Word16)
  /-- `JSGE64_X`, JSGE, X, JMP (43_jump_cond.md R230). -/
  | jsge64X (d : Reg) (s : Reg) (off : Word16)
  /-- `JSGE32_K`, JSGE, K, JMP32 (43_jump_cond.md R231). -/
  | jsge32K (d : Reg) (imm : Word32) (off : Word16)
  /-- `JSGE32_X`, JSGE, X, JMP32 (43_jump_cond.md R232). -/
  | jsge32X (d : Reg) (s : Reg) (off : Word16)
  /-- `JLT64_K`, JLT, K, JMP (43_jump_cond.md R233). -/
  | jlt64K (d : Reg) (imm : Word32) (off : Word16)
  /-- `JLT64_X`, JLT, X, JMP (43_jump_cond.md R234). -/
  | jlt64X (d : Reg) (s : Reg) (off : Word16)
  /-- `JLT32_K`, JLT, K, JMP32 (43_jump_cond.md R235). -/
  | jlt32K (d : Reg) (imm : Word32) (off : Word16)
  /-- `JLT32_X`, JLT, X, JMP32 (43_jump_cond.md R236). -/
  | jlt32X (d : Reg) (s : Reg) (off : Word16)
  /-- `JLE64_K`, JLE, K, JMP (43_jump_cond.md R237). -/
  | jle64K (d : Reg) (imm : Word32) (off : Word16)
  /-- `JLE64_X`, JLE, X, JMP (43_jump_cond.md R238). -/
  | jle64X (d : Reg) (s : Reg) (off : Word16)
  /-- `JLE32_K`, JLE, K, JMP32 (43_jump_cond.md R239). -/
  | jle32K (d : Reg) (imm : Word32) (off : Word16)
  /-- `JLE32_X`, JLE, X, JMP32 (43_jump_cond.md R240). -/
  | jle32X (d : Reg) (s : Reg) (off : Word16)
  /-- `JSLT64_K`, JSLT, K, JMP (43_jump_cond.md R241). -/
  | jslt64K (d : Reg) (imm : Word32) (off : Word16)
  /-- `JSLT64_X`, JSLT, X, JMP (43_jump_cond.md R242). -/
  | jslt64X (d : Reg) (s : Reg) (off : Word16)
  /-- `JSLT32_K`, JSLT, K, JMP32 (43_jump_cond.md R243). -/
  | jslt32K (d : Reg) (imm : Word32) (off : Word16)
  /-- `JSLT32_X`, JSLT, X, JMP32 (43_jump_cond.md R244). -/
  | jslt32X (d : Reg) (s : Reg) (off : Word16)
  /-- `JSLE64_K`, JSLE, K, JMP (43_jump_cond.md R245). -/
  | jsle64K (d : Reg) (imm : Word32) (off : Word16)
  /-- `JSLE64_X`, JSLE, X, JMP (43_jump_cond.md R246). -/
  | jsle64X (d : Reg) (s : Reg) (off : Word16)
  /-- `JSLE32_K`, JSLE, K, JMP32 (43_jump_cond.md R247). -/
  | jsle32K (d : Reg) (imm : Word32) (off : Word16)
  /-- `JSLE32_X`, JSLE, X, JMP32 (43_jump_cond.md R248). -/
  | jsle32X (d : Reg) (s : Reg) (off : Word16)
  /-- `CALL_HELPER`, CALL, K, JMP (43_jump.md R252). -/
  | callHelper (imm : Word32)
  /-- `CALL_LOCAL`, CALL, K, JMP (43_jump.md R253). -/
  | callLocal (imm : Word32)
  /-- `CALL_BTF`, CALL, K, JMP (43_jump.md R254). -/
  | callBtf (imm : Word32)
  /-- `EXIT`, EXIT, K, JMP (43_jump.md R256). -/
  | exit
  /-- `LDX_B`, MEM, B, LDX (44_load_store.md R263). -/
  | ldxB (d : Reg) (s : Reg) (off : Word16)
  /-- `LDX_H`, MEM, H, LDX (44_load_store.md R264). -/
  | ldxH (d : Reg) (s : Reg) (off : Word16)
  /-- `LDX_W`, MEM, W, LDX (44_load_store.md R265). -/
  | ldxW (d : Reg) (s : Reg) (off : Word16)
  /-- `LDX_DW`, MEM, DW, LDX (44_load_store.md R266). -/
  | ldxDw (d : Reg) (s : Reg) (off : Word16)
  /-- `ST_B`, MEM, B, ST (44_load_store.md R267). -/
  | stB (d : Reg) (imm : Word32) (off : Word16)
  /-- `ST_H`, MEM, H, ST (44_load_store.md R268). -/
  | stH (d : Reg) (imm : Word32) (off : Word16)
  /-- `ST_W`, MEM, W, ST (44_load_store.md R269). -/
  | stW (d : Reg) (imm : Word32) (off : Word16)
  /-- `ST_DW`, MEM, DW, ST (44_load_store.md R270). -/
  | stDw (d : Reg) (imm : Word32) (off : Word16)
  /-- `STX_B`, MEM, B, STX (44_load_store.md R271). -/
  | stxB (d : Reg) (s : Reg) (off : Word16)
  /-- `STX_H`, MEM, H, STX (44_load_store.md R272). -/
  | stxH (d : Reg) (s : Reg) (off : Word16)
  /-- `STX_W`, MEM, W, STX (44_load_store.md R273). -/
  | stxW (d : Reg) (s : Reg) (off : Word16)
  /-- `STX_DW`, MEM, DW, STX (44_load_store.md R274). -/
  | stxDw (d : Reg) (s : Reg) (off : Word16)
  /-- `LDXS_B`, MEMSX, B, LDX (44_load_store.md R275). -/
  | ldxsB (d : Reg) (s : Reg) (off : Word16)
  /-- `LDXS_H`, MEMSX, H, LDX (44_load_store.md R276). -/
  | ldxsH (d : Reg) (s : Reg) (off : Word16)
  /-- `LDXS_W`, MEMSX, W, LDX (44_load_store.md R277). -/
  | ldxsW (d : Reg) (s : Reg) (off : Word16)
  /-- `ATOMIC32_ADD`, ATOMIC, W, STX (45_atomic.md R284). -/
  | atomic32Add (d : Reg) (s : Reg) (off : Word16)
  /-- `ATOMIC32_FETCH_ADD`, ATOMIC, W, STX (45_atomic.md R285). -/
  | atomic32FetchAdd (d : Reg) (s : Reg) (off : Word16)
  /-- `ATOMIC32_OR`, ATOMIC, W, STX (45_atomic.md R286). -/
  | atomic32Or (d : Reg) (s : Reg) (off : Word16)
  /-- `ATOMIC32_FETCH_OR`, ATOMIC, W, STX (45_atomic.md R287). -/
  | atomic32FetchOr (d : Reg) (s : Reg) (off : Word16)
  /-- `ATOMIC32_AND`, ATOMIC, W, STX (45_atomic.md R288). -/
  | atomic32And (d : Reg) (s : Reg) (off : Word16)
  /-- `ATOMIC32_FETCH_AND`, ATOMIC, W, STX (45_atomic.md R289). -/
  | atomic32FetchAnd (d : Reg) (s : Reg) (off : Word16)
  /-- `ATOMIC32_XOR`, ATOMIC, W, STX (45_atomic.md R290). -/
  | atomic32Xor (d : Reg) (s : Reg) (off : Word16)
  /-- `ATOMIC32_FETCH_XOR`, ATOMIC, W, STX (45_atomic.md R291). -/
  | atomic32FetchXor (d : Reg) (s : Reg) (off : Word16)
  /-- `ATOMIC32_XCHG`, ATOMIC, W, STX (45_atomic.md R292). -/
  | atomic32Xchg (d : Reg) (s : Reg) (off : Word16)
  /-- `ATOMIC32_CMPXCHG`, ATOMIC, W, STX (45_atomic.md R293). -/
  | atomic32Cmpxchg (d : Reg) (s : Reg) (off : Word16)
  /-- `ATOMIC64_ADD`, ATOMIC, DW, STX (45_atomic.md R294). -/
  | atomic64Add (d : Reg) (s : Reg) (off : Word16)
  /-- `ATOMIC64_FETCH_ADD`, ATOMIC, DW, STX (45_atomic.md R295). -/
  | atomic64FetchAdd (d : Reg) (s : Reg) (off : Word16)
  /-- `ATOMIC64_OR`, ATOMIC, DW, STX (45_atomic.md R296). -/
  | atomic64Or (d : Reg) (s : Reg) (off : Word16)
  /-- `ATOMIC64_FETCH_OR`, ATOMIC, DW, STX (45_atomic.md R297). -/
  | atomic64FetchOr (d : Reg) (s : Reg) (off : Word16)
  /-- `ATOMIC64_AND`, ATOMIC, DW, STX (45_atomic.md R298). -/
  | atomic64And (d : Reg) (s : Reg) (off : Word16)
  /-- `ATOMIC64_FETCH_AND`, ATOMIC, DW, STX (45_atomic.md R299). -/
  | atomic64FetchAnd (d : Reg) (s : Reg) (off : Word16)
  /-- `ATOMIC64_XOR`, ATOMIC, DW, STX (45_atomic.md R300). -/
  | atomic64Xor (d : Reg) (s : Reg) (off : Word16)
  /-- `ATOMIC64_FETCH_XOR`, ATOMIC, DW, STX (45_atomic.md R301). -/
  | atomic64FetchXor (d : Reg) (s : Reg) (off : Word16)
  /-- `ATOMIC64_XCHG`, ATOMIC, DW, STX (45_atomic.md R302). -/
  | atomic64Xchg (d : Reg) (s : Reg) (off : Word16)
  /-- `ATOMIC64_CMPXCHG`, ATOMIC, DW, STX (45_atomic.md R303). -/
  | atomic64Cmpxchg (d : Reg) (s : Reg) (off : Word16)
  /-- `LD_IMM64`, IMM, DW, LD (46_imm64.md R310). -/
  | ldImm64 (d : Reg) (imm : Word32) (next : Word32)
  /-- `LD_MAP_FD`, IMM, DW, LD (46_imm64.md R311). -/
  | ldMapFd (d : Reg) (imm : Word32)
  /-- `LD_MAP_VAL_FD`, IMM, DW, LD (46_imm64.md R312). -/
  | ldMapValFd (d : Reg) (imm : Word32) (next : Word32)
  /-- `LD_VAR_ADDR`, IMM, DW, LD (46_imm64.md R313). -/
  | ldVarAddr (d : Reg) (imm : Word32)
  /-- `LD_CODE_ADDR`, IMM, DW, LD (46_imm64.md R314). -/
  | ldCodeAddr (d : Reg) (imm : Word32)
  /-- `LD_MAP_IDX`, IMM, DW, LD (46_imm64.md R315). -/
  | ldMapIdx (d : Reg) (imm : Word32)
  /-- `LD_MAP_VAL_IDX`, IMM, DW, LD (46_imm64.md R316). -/
  | ldMapValIdx (d : Reg) (imm : Word32) (next : Word32)
  /-- `LD_ABS_W`, ABS, W, LD (47_legacy_packet.md R332). -/
  | ldAbsW (imm : Word32)
  /-- `LD_ABS_H`, ABS, H, LD (47_legacy_packet.md R333). -/
  | ldAbsH (imm : Word32)
  /-- `LD_ABS_B`, ABS, B, LD (47_legacy_packet.md R334). -/
  | ldAbsB (imm : Word32)
  /-- `LD_IND_W`, IND, W, LD (47_legacy_packet.md R335). -/
  | ldIndW (s : Reg) (imm : Word32)
  /-- `LD_IND_H`, IND, H, LD (47_legacy_packet.md R336). -/
  | ldIndH (s : Reg) (imm : Word32)
  /-- `LD_IND_B`, IND, B, LD (47_legacy_packet.md R337). -/
  | ldIndB (s : Reg) (imm : Word32)
  deriving DecidableEq, Repr

end Sys2Proof
end

