-- ==== Sys2Proof/Machine/Groups.lean ====
section
/-! DEFINITION. Conformance groups: the group of each instruction (00_scope.md R4, opcode_table.json) and what a
set of groups supports (R3). -/

namespace Sys2Proof

/-- Whether a group is supported when `GROUPS` holds `gs`: it is there itself, or one that includes it is
(00_scope.md R3: base64 includes base32, atomic64 includes atomic32, divmul64 includes divmul32; log 2). -/
def supports (gs : List Group) (g : Group) : Bool :=
  match g with
  | .base32 => gs.contains .base32 || gs.contains .base64
  | .base64 => gs.contains .base64
  | .atomic32 => gs.contains .atomic32 || gs.contains .atomic64
  | .atomic64 => gs.contains .atomic64
  | .divmul32 => gs.contains .divmul32 || gs.contains .divmul64
  | .divmul64 => gs.contains .divmul64
  | .packet => gs.contains .packet

/-- The conformance group of an instruction (00_scope.md R4, the `group` key of opcode_table.json). -/
def Instr.group (i : Instr) : Group :=
  match i with
  | .add32K _ _ => .base32
  | .add32X _ _ => .base32
  | .sub32K _ _ => .base32
  | .sub32X _ _ => .base32
  | .mul32K _ _ => .divmul32
  | .mul32X _ _ => .divmul32
  | .div32K _ _ => .divmul32
  | .div32X _ _ => .divmul32
  | .sdiv32K _ _ => .divmul32
  | .sdiv32X _ _ => .divmul32
  | .or32K _ _ => .base32
  | .or32X _ _ => .base32
  | .and32K _ _ => .base32
  | .and32X _ _ => .base32
  | .lsh32K _ _ => .base32
  | .lsh32X _ _ => .base32
  | .rsh32K _ _ => .base32
  | .rsh32X _ _ => .base32
  | .neg32 _ => .base32
  | .mod32K _ _ => .divmul32
  | .mod32X _ _ => .divmul32
  | .smod32K _ _ => .divmul32
  | .smod32X _ _ => .divmul32
  | .xor32K _ _ => .base32
  | .xor32X _ _ => .base32
  | .mov32K _ _ => .base32
  | .mov32X _ _ => .base32
  | .movsx32From8 _ _ => .base32
  | .movsx32From16 _ _ => .base32
  | .arsh32K _ _ => .base32
  | .arsh32X _ _ => .base32
  | .add64K _ _ => .base64
  | .add64X _ _ => .base64
  | .sub64K _ _ => .base64
  | .sub64X _ _ => .base64
  | .mul64K _ _ => .divmul64
  | .mul64X _ _ => .divmul64
  | .div64K _ _ => .divmul64
  | .div64X _ _ => .divmul64
  | .sdiv64K _ _ => .divmul64
  | .sdiv64X _ _ => .divmul64
  | .or64K _ _ => .base64
  | .or64X _ _ => .base64
  | .and64K _ _ => .base64
  | .and64X _ _ => .base64
  | .lsh64K _ _ => .base64
  | .lsh64X _ _ => .base64
  | .rsh64K _ _ => .base64
  | .rsh64X _ _ => .base64
  | .neg64 _ => .base64
  | .mod64K _ _ => .divmul64
  | .mod64X _ _ => .divmul64
  | .smod64K _ _ => .divmul64
  | .smod64X _ _ => .divmul64
  | .xor64K _ _ => .base64
  | .xor64X _ _ => .base64
  | .mov64K _ _ => .base64
  | .mov64X _ _ => .base64
  | .movsx64From8 _ _ => .base64
  | .movsx64From16 _ _ => .base64
  | .movsx64From32 _ _ => .base64
  | .arsh64K _ _ => .base64
  | .arsh64X _ _ => .base64
  | .le16 _ => .base32
  | .le32 _ => .base32
  | .le64 _ => .base64
  | .be16 _ => .base32
  | .be32 _ => .base32
  | .be64 _ => .base64
  | .bswap16 _ => .base32
  | .bswap32 _ => .base32
  | .bswap64 _ => .base64
  | .ja _ => .base32
  | .ja32 _ => .base32
  | .jeq64K _ _ _ => .base64
  | .jeq64X _ _ _ => .base64
  | .jeq32K _ _ _ => .base32
  | .jeq32X _ _ _ => .base32
  | .jgt64K _ _ _ => .base64
  | .jgt64X _ _ _ => .base64
  | .jgt32K _ _ _ => .base32
  | .jgt32X _ _ _ => .base32
  | .jge64K _ _ _ => .base64
  | .jge64X _ _ _ => .base64
  | .jge32K _ _ _ => .base32
  | .jge32X _ _ _ => .base32
  | .jset64K _ _ _ => .base64
  | .jset64X _ _ _ => .base64
  | .jset32K _ _ _ => .base32
  | .jset32X _ _ _ => .base32
  | .jne64K _ _ _ => .base64
  | .jne64X _ _ _ => .base64
  | .jne32K _ _ _ => .base32
  | .jne32X _ _ _ => .base32
  | .jsgt64K _ _ _ => .base64
  | .jsgt64X _ _ _ => .base64
  | .jsgt32K _ _ _ => .base32
  | .jsgt32X _ _ _ => .base32
  | .jsge64K _ _ _ => .base64
  | .jsge64X _ _ _ => .base64
  | .jsge32K _ _ _ => .base32
  | .jsge32X _ _ _ => .base32
  | .jlt64K _ _ _ => .base64
  | .jlt64X _ _ _ => .base64
  | .jlt32K _ _ _ => .base32
  | .jlt32X _ _ _ => .base32
  | .jle64K _ _ _ => .base64
  | .jle64X _ _ _ => .base64
  | .jle32K _ _ _ => .base32
  | .jle32X _ _ _ => .base32
  | .jslt64K _ _ _ => .base64
  | .jslt64X _ _ _ => .base64
  | .jslt32K _ _ _ => .base32
  | .jslt32X _ _ _ => .base32
  | .jsle64K _ _ _ => .base64
  | .jsle64X _ _ _ => .base64
  | .jsle32K _ _ _ => .base32
  | .jsle32X _ _ _ => .base32
  | .callHelper _ => .base32
  | .callLocal _ => .base32
  | .callBtf _ => .base32
  | .exit => .base32
  | .ldxB _ _ _ => .base32
  | .ldxH _ _ _ => .base32
  | .ldxW _ _ _ => .base32
  | .ldxDw _ _ _ => .base64
  | .stB _ _ _ => .base32
  | .stH _ _ _ => .base32
  | .stW _ _ _ => .base32
  | .stDw _ _ _ => .base64
  | .stxB _ _ _ => .base32
  | .stxH _ _ _ => .base32
  | .stxW _ _ _ => .base32
  | .stxDw _ _ _ => .base64
  | .ldxsB _ _ _ => .base32
  | .ldxsH _ _ _ => .base32
  | .ldxsW _ _ _ => .base32
  | .atomic32Add _ _ _ => .atomic32
  | .atomic32FetchAdd _ _ _ => .atomic32
  | .atomic32Or _ _ _ => .atomic32
  | .atomic32FetchOr _ _ _ => .atomic32
  | .atomic32And _ _ _ => .atomic32
  | .atomic32FetchAnd _ _ _ => .atomic32
  | .atomic32Xor _ _ _ => .atomic32
  | .atomic32FetchXor _ _ _ => .atomic32
  | .atomic32Xchg _ _ _ => .atomic32
  | .atomic32Cmpxchg _ _ _ => .atomic32
  | .atomic64Add _ _ _ => .atomic64
  | .atomic64FetchAdd _ _ _ => .atomic64
  | .atomic64Or _ _ _ => .atomic64
  | .atomic64FetchOr _ _ _ => .atomic64
  | .atomic64And _ _ _ => .atomic64
  | .atomic64FetchAnd _ _ _ => .atomic64
  | .atomic64Xor _ _ _ => .atomic64
  | .atomic64FetchXor _ _ _ => .atomic64
  | .atomic64Xchg _ _ _ => .atomic64
  | .atomic64Cmpxchg _ _ _ => .atomic64
  | .ldImm64 _ _ _ => .base64
  | .ldMapFd _ _ => .base64
  | .ldMapValFd _ _ _ => .base64
  | .ldVarAddr _ _ => .base64
  | .ldCodeAddr _ _ => .base64
  | .ldMapIdx _ _ => .base64
  | .ldMapValIdx _ _ _ => .base64
  | .ldAbsW _ => .packet
  | .ldAbsH _ => .packet
  | .ldAbsB _ => .packet
  | .ldIndW _ _ => .packet
  | .ldIndH _ _ => .packet
  | .ldIndB _ _ => .packet

end Sys2Proof
end

