-- ==== Sys2Proof/Decode.lean ====
section
/-! DEFINITION. Decoding: from slots of program text to instructions (30_encoding.md R60 to R86), total, every
refusal named; and after it the encoder, from the same tables. -/

namespace Sys2Proof

/-! ### Slots and fields -/

/-- One 64-bit slot of program text. Bits 7:0 hold the byte at the lowest address, bits 63:56 the byte at the
highest (30_encoding.md R60, R61). -/
abbrev Slot := BitVec 64

/-- The five fields of a slot, host order undone (30_encoding.md R61). -/
structure Fields where
  opcode : BitVec 8
  dst : BitVec 4
  src : BitVec 4
  offset : Word16
  imm : Word32
  deriving DecidableEq, Repr

/-- The fields of a slot on a host (30_encoding.md R61, R62, R64): byte 0 is `opcode` on both; the nibbles of
byte 1 and the bytes of `offset` and `imm` follow the host. -/
def Fields.ofSlot (e : Endian) (w : Slot) : Fields :=
  match e with
  | .little =>
    { opcode := w.extractLsb' 0 8, dst := w.extractLsb' 8 4, src := w.extractLsb' 12 4
      offset := w.extractLsb' 16 16, imm := w.extractLsb' 32 32 }
  | .big =>
    { opcode := w.extractLsb' 0 8, dst := w.extractLsb' 12 4, src := w.extractLsb' 8 4
      offset := bswap16 (w.extractLsb' 16 16), imm := bswap32 (w.extractLsb' 32 32) }

/-- The slot that holds the given fields on a host (30_encoding.md R61, R62, R64). -/
def Fields.toSlot (e : Endian) (f : Fields) : Slot :=
  match e with
  | .little => f.imm ++ f.offset ++ f.src ++ f.dst ++ f.opcode
  | .big => bswap32 f.imm ++ bswap16 f.offset ++ f.dst ++ f.src ++ f.opcode

/-- The canonical word `W` of the fields: `imm ++ offset ++ src_reg ++ dst_reg ++ opcode` (30_encoding.md R65). -/
def Fields.canonical (f : Fields) : Word :=
  f.imm ++ f.offset ++ f.src ++ f.dst ++ f.opcode

/-- The fields of a canonical word (30_encoding.md R65). -/
def Fields.ofCanonical (w : Word) : Fields :=
  { opcode := w.extractLsb' 0 8, dst := w.extractLsb' 8 4, src := w.extractLsb' 12 4
    offset := w.extractLsb' 16 16, imm := w.extractLsb' 32 32 }

/-- The instruction class, bits 2:0 of the opcode (30_encoding.md R63, R68). -/
def Fields.cls (f : Fields) : Nat := (f.opcode.extractLsb' 0 3).toNat

/-- The operation code of an arithmetic or jump instruction, bits 7:4 (30_encoding.md R69). -/
def Fields.code (f : Fields) : Nat := (f.opcode.extractLsb' 4 4).toNat

/-- The source bit of an arithmetic or jump instruction: false is `K`, true is `X` (30_encoding.md R69). -/
def Fields.sourceX (f : Fields) : Bool := f.opcode.getLsbD 3

/-- The mode of a load or store instruction, bits 7:5 (30_encoding.md R71). -/
def Fields.mode (f : Fields) : Nat := (f.opcode.extractLsb' 5 3).toNat

/-- The size code of a load or store instruction, bits 4:3: W 0, H 1, B 2, DW 3 (30_encoding.md R71). -/
def Fields.size (f : Fields) : Nat := (f.opcode.extractLsb' 3 2).toNat

/-- The opcode byte of every wide instruction (30_encoding.md R67). -/
def wideOpcode : BitVec 8 := 0x18#8

/-- Whether a slot standing at an instruction start begins a wide instruction (30_encoding.md R67). -/
def isWide (w : Slot) : Bool := w.extractLsb' 0 8 == wideOpcode

/-! ### Register numbers -/

/-- The number of a register (10_state.md R21). -/
def Reg.num (r : Reg) : BitVec 4 :=
  match r with
  | .r0 => 0#4
  | .r1 => 1#4
  | .r2 => 2#4
  | .r3 => 3#4
  | .r4 => 4#4
  | .r5 => 5#4
  | .r6 => 6#4
  | .r7 => 7#4
  | .r8 => 8#4
  | .r9 => 9#4
  | .r10 => 10#4

/-! ### The decoder -/

/-- Why the decoder refuses (30_encoding.md R80, R81). The machine turns each of them into
`IllegalInstruction(pc)`. -/
inductive DecodeError where
  /-- No row of the opcode table has this opcode byte (R82). -/
  | reservedOpcode (opcode : BitVec 8)
  /-- `offset` selects no instruction of this opcode byte (R81 items 2, 3). -/
  | reservedOffset (offset : Word16)
  /-- `imm` selects no instruction of this opcode byte (R81 items 5, 10). -/
  | reservedImm (imm : Word32)
  /-- `src_reg` selects no instruction of this opcode byte (R81 items 7, 8, 11; R257). -/
  | reservedSource (src : BitVec 4)
  /-- A register number above 10 (R81 item 1). -/
  | badRegister (n : BitVec 4)
  /-- A non-zero unused field under `STRICT_UNUSED` (R76, R80), the reserved bits of a second slot among them (R81
  item 12, 93_implementation_defined.md U4). -/
  | unusedField
  /-- A wide instruction without its second slot (R81 item 12). -/
  | missingSecondSlot
  /-- Fewer than the eight bytes of a slot. -/
  | missingBytes
  deriving DecidableEq, Repr

/-- What decoding answers. -/
abbrev Decoded := Except DecodeError Instr

/-- A register number 0 to 10 (30_encoding.md R62, R86 step 3). -/
def decodeReg (n : BitVec 4) : Except DecodeError Reg :=
  match n.toNat with
  | 0 => .ok .r0
  | 1 => .ok .r1
  | 2 => .ok .r2
  | 3 => .ok .r3
  | 4 => .ok .r4
  | 5 => .ok .r5
  | 6 => .ok .r6
  | 7 => .ok .r7
  | 8 => .ok .r8
  | 9 => .ok .r9
  | 10 => .ok .r10
  | _ => .error (.badRegister n)

/-- Go on when the unused fields are zero, or when `STRICT_UNUSED` is false (30_encoding.md R76, R80). -/
def needUnused (strict zero : Bool) (k : Decoded) : Decoded :=
  if !strict || zero then k else .error .unusedField

/-- Go on with the register `dst_reg` names. -/
def withDst (f : Fields) (k : Reg → Decoded) : Decoded :=
  match decodeReg f.dst with
  | .ok d => k d
  | .error e => .error e

/-- Go on with the register `src_reg` names. -/
def withSrc (f : Fields) (k : Reg → Decoded) : Decoded :=
  match decodeReg f.src with
  | .ok s => k s
  | .error e => .error e

/-- A `K` form: `dst_reg` and `imm` are operands, `src_reg` is unused (30_encoding.md R76). -/
def formK (strict : Bool) (f : Fields) (k : Reg → Word32 → Instr) : Decoded :=
  needUnused strict (f.src == 0#4) (withDst f fun d => .ok (k d f.imm))

/-- An `X` form: `dst_reg` and `src_reg` are operands, `imm` is unused (30_encoding.md R76). -/
def formX (strict : Bool) (f : Fields) (x : Reg → Reg → Instr) : Decoded :=
  needUnused strict (f.imm == 0#32) (withDst f fun d => withSrc f fun s => .ok (x d s))

/-- The `K` or the `X` form, by the source bit (30_encoding.md R69). -/
def formKX (strict : Bool) (f : Fields) (k : Reg → Word32 → Instr) (x : Reg → Reg → Instr) : Decoded :=
  if f.sourceX then formX strict f x else formK strict f k

/-- An arithmetic instruction whose `offset` must be 0 (30_encoding.md R73). -/
def arith (strict : Bool) (f : Fields) (k : Reg → Word32 → Instr) (x : Reg → Reg → Instr) : Decoded :=
  if f.offset = 0#16 then formKX strict f k x else .error (.reservedOffset f.offset)

/-- A division or remainder: `offset` 0 is the unsigned one, 1 the signed one (30_encoding.md R73). -/
def arithSigned (strict : Bool) (f : Fields) (k : Reg → Word32 → Instr) (x : Reg → Reg → Instr)
    (sk : Reg → Word32 → Instr) (sx : Reg → Reg → Instr) : Decoded :=
  if f.offset = 0#16 then formKX strict f k x
  else if f.offset = 1#16 then formKX strict f sk sx
  else .error (.reservedOffset f.offset)

/-- `NEG`, in the `K` form only, with no operand but `dst_reg` (30_encoding.md R76, R81 item 4). -/
def negate (strict : Bool) (f : Fields) (mk : Reg → Instr) : Decoded :=
  if f.sourceX then .error (.reservedOpcode f.opcode)
  else if f.offset = 0#16 then
    needUnused strict (f.src == 0#4 && f.imm == 0#32) (withDst f fun d => .ok (mk d))
  else .error (.reservedOffset f.offset)

/-- A byte swap: `imm` is the width (30_encoding.md R75, R81 item 5). `offset` is read as a selector, checked whatever
`STRICT_UNUSED` says (R73, R76, R81 item 2, and the mask `min_mask` that R80 names), where 42_byteswap.md R183 to
R191 call it unused (DEDUCED, log 23). -/
def swap (strict : Bool) (f : Fields) (w16 w32 w64 : Reg → Instr) : Decoded :=
  if f.offset = 0#16 then
    needUnused strict (f.src == 0#4) (withDst f fun d =>
      if f.imm = 16#32 then .ok (w16 d)
      else if f.imm = 32#32 then .ok (w32 d)
      else if f.imm = 64#32 then .ok (w64 d)
      else .error (.reservedImm f.imm))
  else .error (.reservedOffset f.offset)

/-- Class ALU (30_encoding.md R69, R73; 40_alu32.md, 42_byteswap.md). -/
def decodeAlu32 (strict : Bool) (f : Fields) : Decoded :=
  match f.code with
  | 0x0 => arith strict f .add32K .add32X
  | 0x1 => arith strict f .sub32K .sub32X
  | 0x2 => arith strict f .mul32K .mul32X
  | 0x3 => arithSigned strict f .div32K .div32X .sdiv32K .sdiv32X
  | 0x4 => arith strict f .or32K .or32X
  | 0x5 => arith strict f .and32K .and32X
  | 0x6 => arith strict f .lsh32K .lsh32X
  | 0x7 => arith strict f .rsh32K .rsh32X
  | 0x8 => negate strict f .neg32
  | 0x9 => arithSigned strict f .mod32K .mod32X .smod32K .smod32X
  | 0xa => arith strict f .xor32K .xor32X
  | 0xb =>
    if f.offset = 0#16 then formKX strict f .mov32K .mov32X
    else if f.sourceX && f.offset == 8#16 then formX strict f .movsx32From8
    else if f.sourceX && f.offset == 16#16 then formX strict f .movsx32From16
    else .error (.reservedOffset f.offset)
  | 0xc => arith strict f .arsh32K .arsh32X
  | 0xd => if f.sourceX then swap strict f .be16 .be32 .be64 else swap strict f .le16 .le32 .le64
  | _ => .error (.reservedOpcode f.opcode)

/-- Class ALU64 (30_encoding.md R69, R73; 41_alu64.md, 42_byteswap.md). -/
def decodeAlu64 (strict : Bool) (f : Fields) : Decoded :=
  match f.code with
  | 0x0 => arith strict f .add64K .add64X
  | 0x1 => arith strict f .sub64K .sub64X
  | 0x2 => arith strict f .mul64K .mul64X
  | 0x3 => arithSigned strict f .div64K .div64X .sdiv64K .sdiv64X
  | 0x4 => arith strict f .or64K .or64X
  | 0x5 => arith strict f .and64K .and64X
  | 0x6 => arith strict f .lsh64K .lsh64X
  | 0x7 => arith strict f .rsh64K .rsh64X
  | 0x8 => negate strict f .neg64
  | 0x9 => arithSigned strict f .mod64K .mod64X .smod64K .smod64X
  | 0xa => arith strict f .xor64K .xor64X
  | 0xb =>
    if f.offset = 0#16 then formKX strict f .mov64K .mov64X
    else if f.sourceX && f.offset == 8#16 then formX strict f .movsx64From8
    else if f.sourceX && f.offset == 16#16 then formX strict f .movsx64From16
    else if f.sourceX && f.offset == 32#16 then formX strict f .movsx64From32
    else .error (.reservedOffset f.offset)
  | 0xc => arith strict f .arsh64K .arsh64X
  | 0xd => if f.sourceX then .error (.reservedOpcode f.opcode) else swap strict f .bswap16 .bswap32 .bswap64
  | _ => .error (.reservedOpcode f.opcode)

/-- A conditional jump: `offset` is the displacement (43_jump.md R200, R201). -/
def condJump (strict : Bool) (f : Fields) (k : Reg → Word32 → Word16 → Instr)
    (x : Reg → Reg → Word16 → Instr) : Decoded :=
  formKX strict f (fun d imm => k d imm f.offset) (fun d s => x d s f.offset)

/-- `CALL`: `src_reg` tells the three apart (30_encoding.md R74, 43_jump.md R249). -/
def decodeCall (strict : Bool) (f : Fields) : Decoded :=
  match f.src.toNat with
  | 0 => needUnused strict (f.dst == 0#4 && f.offset == 0#16) (.ok (.callHelper f.imm))
  | 1 => needUnused strict (f.dst == 0#4 && f.offset == 0#16) (.ok (.callLocal f.imm))
  | 2 => needUnused strict (f.dst == 0#4 && f.offset == 0#16) (.ok (.callBtf f.imm))
  | _ => .error (.reservedSource f.src)

/-- Class JMP (43_jump.md R200, R257). -/
def decodeJmp (strict : Bool) (f : Fields) : Decoded :=
  match f.code with
  | 0x0 =>
    if f.sourceX then .error (.reservedOpcode f.opcode)
    else if f.src = 0#4 then
      needUnused strict (f.dst == 0#4 && f.imm == 0#32) (.ok (.ja f.offset))
    else .error (.reservedSource f.src)
  | 0x1 => condJump strict f .jeq64K .jeq64X
  | 0x2 => condJump strict f .jgt64K .jgt64X
  | 0x3 => condJump strict f .jge64K .jge64X
  | 0x4 => condJump strict f .jset64K .jset64X
  | 0x5 => condJump strict f .jne64K .jne64X
  | 0x6 => condJump strict f .jsgt64K .jsgt64X
  | 0x7 => condJump strict f .jsge64K .jsge64X
  | 0x8 => if f.sourceX then .error (.reservedOpcode f.opcode) else decodeCall strict f
  | 0x9 =>
    if f.sourceX then .error (.reservedOpcode f.opcode)
    else if f.src = 0#4 then
      needUnused strict (f.dst == 0#4 && f.offset == 0#16 && f.imm == 0#32) (.ok .exit)
    else .error (.reservedSource f.src)
  | 0xa => condJump strict f .jlt64K .jlt64X
  | 0xb => condJump strict f .jle64K .jle64X
  | 0xc => condJump strict f .jslt64K .jslt64X
  | 0xd => condJump strict f .jsle64K .jsle64X
  | _ => .error (.reservedOpcode f.opcode)

/-- Class JMP32 (43_jump.md R200, R257). -/
def decodeJmp32 (strict : Bool) (f : Fields) : Decoded :=
  match f.code with
  | 0x0 =>
    if f.sourceX then .error (.reservedOpcode f.opcode)
    else if f.src = 0#4 then
      needUnused strict (f.dst == 0#4 && f.offset == 0#16) (.ok (.ja32 f.imm))
    else .error (.reservedSource f.src)
  | 0x1 => condJump strict f .jeq32K .jeq32X
  | 0x2 => condJump strict f .jgt32K .jgt32X
  | 0x3 => condJump strict f .jge32K .jge32X
  | 0x4 => condJump strict f .jset32K .jset32X
  | 0x5 => condJump strict f .jne32K .jne32X
  | 0x6 => condJump strict f .jsgt32K .jsgt32X
  | 0x7 => condJump strict f .jsge32K .jsge32X
  | 0xa => condJump strict f .jlt32K .jlt32X
  | 0xb => condJump strict f .jle32K .jle32X
  | 0xc => condJump strict f .jslt32K .jslt32X
  | 0xd => condJump strict f .jsle32K .jsle32X
  | _ => .error (.reservedOpcode f.opcode)

/-- A load or a store of a register: `dst_reg`, `src_reg` and `offset` are operands (44_load_store.md R261). -/
def loadStore (strict : Bool) (f : Fields) (mk : Reg → Reg → Word16 → Instr) : Decoded :=
  formX strict f fun d s => mk d s f.offset

/-- A store of an immediate (44_load_store.md R261). -/
def storeImm (strict : Bool) (f : Fields) (mk : Reg → Word32 → Word16 → Instr) : Decoded :=
  formK strict f fun d imm => mk d imm f.offset

/-- Class LDX: modes MEM and MEMSX (44_load_store.md R260 to R262). -/
def decodeLdx (strict : Bool) (f : Fields) : Decoded :=
  match f.mode, f.size with
  | 3, 0 => loadStore strict f .ldxW
  | 3, 1 => loadStore strict f .ldxH
  | 3, 2 => loadStore strict f .ldxB
  | 3, 3 => loadStore strict f .ldxDw
  | 4, 0 => loadStore strict f .ldxsW
  | 4, 1 => loadStore strict f .ldxsH
  | 4, 2 => loadStore strict f .ldxsB
  | _, _ => .error (.reservedOpcode f.opcode)

/-- Class ST: mode MEM (44_load_store.md R260, R261). -/
def decodeSt (strict : Bool) (f : Fields) : Decoded :=
  match f.mode, f.size with
  | 3, 0 => storeImm strict f .stW
  | 3, 1 => storeImm strict f .stH
  | 3, 2 => storeImm strict f .stB
  | 3, 3 => storeImm strict f .stDw
  | _, _ => .error (.reservedOpcode f.opcode)

/-- An atomic operation: the whole of `imm` selects it (45_atomic.md R280). -/
def atomic (f : Fields) (add fetchAdd or fetchOr and fetchAnd xor fetchXor xchg cmpxchg :
    Reg → Reg → Word16 → Instr) : Decoded :=
  withDst f fun d => withSrc f fun s =>
    match f.imm.toNat with
    | 0x00 => .ok (add d s f.offset)
    | 0x01 => .ok (fetchAdd d s f.offset)
    | 0x40 => .ok (or d s f.offset)
    | 0x41 => .ok (fetchOr d s f.offset)
    | 0x50 => .ok (and d s f.offset)
    | 0x51 => .ok (fetchAnd d s f.offset)
    | 0xa0 => .ok (xor d s f.offset)
    | 0xa1 => .ok (fetchXor d s f.offset)
    | 0xe1 => .ok (xchg d s f.offset)
    | 0xf1 => .ok (cmpxchg d s f.offset)
    | _ => .error (.reservedImm f.imm)

/-- Class STX: modes MEM and ATOMIC (44_load_store.md R260, 45_atomic.md R280). -/
def decodeStx (strict : Bool) (f : Fields) : Decoded :=
  match f.mode, f.size with
  | 3, 0 => loadStore strict f .stxW
  | 3, 1 => loadStore strict f .stxH
  | 3, 2 => loadStore strict f .stxB
  | 3, 3 => loadStore strict f .stxDw
  | 6, 0 =>
    atomic f .atomic32Add .atomic32FetchAdd .atomic32Or .atomic32FetchOr .atomic32And .atomic32FetchAnd
      .atomic32Xor .atomic32FetchXor .atomic32Xchg .atomic32Cmpxchg
  | 6, 3 =>
    atomic f .atomic64Add .atomic64FetchAdd .atomic64Or .atomic64FetchOr .atomic64And .atomic64FetchAnd
      .atomic64Xor .atomic64FetchXor .atomic64Xchg .atomic64Cmpxchg
  | _, _ => .error (.reservedOpcode f.opcode)

/-- The reserved bits of a second slot are zero (30_encoding.md R66). -/
def Fields.reservedZero (g : Fields) : Bool := g.opcode == 0#8 && g.dst == 0#4 && g.src == 0#4 && g.offset == 0#16

/-- A 64-bit immediate instruction, given its second slot (46_imm64.md R306; 30_encoding.md R66, R74, R81). The
reserved bits of the second slot are an unused field (R76, 93_implementation_defined.md U4; log 4). -/
def decodeWide (strict : Bool) (f : Fields) (second : Option Fields) : Decoded :=
  match second with
  | none => .error .missingSecondSlot
  | some g =>
    needUnused strict (f.offset == 0#16 && g.reservedZero) (withDst f fun d =>
      match f.src.toNat with
      | 0 => .ok (.ldImm64 d f.imm g.imm)
      | 1 => needUnused strict (g.imm == 0#32) (.ok (.ldMapFd d f.imm))
      | 2 => .ok (.ldMapValFd d f.imm g.imm)
      | 3 => needUnused strict (g.imm == 0#32) (.ok (.ldVarAddr d f.imm))
      | 4 => needUnused strict (g.imm == 0#32) (.ok (.ldCodeAddr d f.imm))
      | 5 => needUnused strict (g.imm == 0#32) (.ok (.ldMapIdx d f.imm))
      | 6 => .ok (.ldMapValIdx d f.imm g.imm)
      | _ => .error (.reservedSource f.src))

/-- `LD ABS`: `imm` is the only operand (47_legacy_packet.md R330). -/
def packetAbs (strict : Bool) (f : Fields) (mk : Word32 → Instr) : Decoded :=
  needUnused strict (f.dst == 0#4 && f.src == 0#4 && f.offset == 0#16) (.ok (mk f.imm))

/-- `LD IND`: `src_reg` and `imm` are operands (47_legacy_packet.md R330). -/
def packetInd (strict : Bool) (f : Fields) (mk : Reg → Word32 → Instr) : Decoded :=
  needUnused strict (f.dst == 0#4 && f.offset == 0#16) (withSrc f fun s => .ok (mk s f.imm))

/-- Class LD: modes IMM, ABS and IND (46_imm64.md R306, 47_legacy_packet.md R330). -/
def decodeLd (strict : Bool) (f : Fields) (second : Option Fields) : Decoded :=
  match f.mode, f.size with
  | 0, 3 => decodeWide strict f second
  | 1, 0 => packetAbs strict f .ldAbsW
  | 1, 1 => packetAbs strict f .ldAbsH
  | 1, 2 => packetAbs strict f .ldAbsB
  | 2, 0 => packetInd strict f .ldIndW
  | 2, 1 => packetInd strict f .ldIndH
  | 2, 2 => packetInd strict f .ldIndB
  | _, _ => .error (.reservedOpcode f.opcode)

/-- Steps (2) and (3) of the decode procedure (30_encoding.md R86): the instruction of a slot's fields and, for a
wide instruction, of the slot after it. -/
def decodeFields (strict : Bool) (f : Fields) (second : Option Fields) : Decoded :=
  match f.cls with
  | 0 => decodeLd strict f second
  | 1 => decodeLdx strict f
  | 2 => decodeSt strict f
  | 3 => decodeStx strict f
  | 4 => decodeAlu32 strict f
  | 5 => decodeJmp strict f
  | 6 => decodeJmp32 strict f
  | _ => decodeAlu64 strict f

/-- The instruction of a slot and, for a wide instruction, of the slot after it (30_encoding.md R86 steps 1 to 3). -/
def decodeSlots (e : Endian) (strict : Bool) (w : Slot) (second : Option Slot) : Decoded :=
  decodeFields strict (Fields.ofSlot e w) (second.map (Fields.ofSlot e))

/-- A slot from its eight bytes in the order of rising addresses. -/
def slotOfBytes (b0 b1 b2 b3 b4 b5 b6 b7 : Byte) : Slot :=
  b7 ++ b6 ++ b5 ++ b4 ++ b3 ++ b2 ++ b1 ++ b0

/-- The eight bytes of a slot in the order of rising addresses. -/
def slotBytes (w : Slot) : List Byte :=
  [w.extractLsb' 0 8, w.extractLsb' 8 8, w.extractLsb' 16 8, w.extractLsb' 24 8,
    w.extractLsb' 32 8, w.extractLsb' 40 8, w.extractLsb' 48 8, w.extractLsb' 56 8]

/-- The first slot of a list of bytes, and the bytes after it. -/
def takeSlot (bs : List Byte) : Option (Slot × List Byte) :=
  match bs with
  | b0 :: b1 :: b2 :: b3 :: b4 :: b5 :: b6 :: b7 :: rest => some (slotOfBytes b0 b1 b2 b3 b4 b5 b6 b7, rest)
  | _ => none

/-- The instruction at the front of a list of bytes, and the bytes after it (30_encoding.md R60, R67). -/
def decode (e : Endian) (strict : Bool) (bs : List Byte) : Except DecodeError (Instr × List Byte) :=
  match takeSlot bs with
  | none => .error .missingBytes
  | some (w, rest) =>
    if isWide w then
      match takeSlot rest with
      | none => .error .missingSecondSlot
      | some (w2, rest2) => (decodeSlots e strict w (some w2)).map fun i => (i, rest2)
    else (decodeSlots e strict w none).map fun i => (i, rest)

/-- The instruction the decoder reads from `nbits` bits numbered as opcode_table.json numbers them: bits 63:0 are
the first slot, bits 127:64 the second, laid out as bytes on a little-endian host, where the canonical word is the
slot (30_encoding.md R65). Bits above `nbits` are zero. -/
def decodeTableWord (nbits w : Nat) : Option Instr :=
  let v := w % 2 ^ nbits
  match decode .little true (slotBytes (BitVec.ofNat 64 v) ++ slotBytes (BitVec.ofNat 64 (v / 2 ^ 64))) with
  | .ok (i, _) => some i
  | .error _ => none

/-! ### The encoder -/

/-- The fields of an encoded instruction: of its slot and, for a wide instruction, of its second slot. -/
structure Encoded where
  first : Fields
  second : Option Fields
  deriving DecidableEq, Repr

/-- A basic instruction with both register fields given (30_encoding.md R61). -/
def encBasic (opcode : BitVec 8) (dst src : BitVec 4) (offset : Word16) (imm : Word32) : Encoded :=
  { first := { opcode := opcode, dst := dst, src := src, offset := offset, imm := imm }, second := none }

/-- A 64-bit immediate instruction (30_encoding.md R66, 46_imm64.md R306). -/
def encWide (subtype : BitVec 4) (d : Reg) (imm next : Word32) : Encoded :=
  { first := { opcode := wideOpcode, dst := d.num, src := subtype, offset := 0#16, imm := imm }
    second := some { opcode := 0#8, dst := 0#4, src := 0#4, offset := 0#16, imm := next } }

/-- The fields of an instruction, unused fields zero (opcode_table.json, strict patterns). -/
def encodeFields (i : Instr) : Encoded :=
  match i with
  | .add32K d imm => encBasic 0x04#8 d.num 0#4 0#16 imm
  | .add32X d s => encBasic 0x0c#8 d.num s.num 0#16 0#32
  | .sub32K d imm => encBasic 0x14#8 d.num 0#4 0#16 imm
  | .sub32X d s => encBasic 0x1c#8 d.num s.num 0#16 0#32
  | .mul32K d imm => encBasic 0x24#8 d.num 0#4 0#16 imm
  | .mul32X d s => encBasic 0x2c#8 d.num s.num 0#16 0#32
  | .div32K d imm => encBasic 0x34#8 d.num 0#4 0#16 imm
  | .div32X d s => encBasic 0x3c#8 d.num s.num 0#16 0#32
  | .sdiv32K d imm => encBasic 0x34#8 d.num 0#4 1#16 imm
  | .sdiv32X d s => encBasic 0x3c#8 d.num s.num 1#16 0#32
  | .or32K d imm => encBasic 0x44#8 d.num 0#4 0#16 imm
  | .or32X d s => encBasic 0x4c#8 d.num s.num 0#16 0#32
  | .and32K d imm => encBasic 0x54#8 d.num 0#4 0#16 imm
  | .and32X d s => encBasic 0x5c#8 d.num s.num 0#16 0#32
  | .lsh32K d imm => encBasic 0x64#8 d.num 0#4 0#16 imm
  | .lsh32X d s => encBasic 0x6c#8 d.num s.num 0#16 0#32
  | .rsh32K d imm => encBasic 0x74#8 d.num 0#4 0#16 imm
  | .rsh32X d s => encBasic 0x7c#8 d.num s.num 0#16 0#32
  | .neg32 d => encBasic 0x84#8 d.num 0#4 0#16 0#32
  | .mod32K d imm => encBasic 0x94#8 d.num 0#4 0#16 imm
  | .mod32X d s => encBasic 0x9c#8 d.num s.num 0#16 0#32
  | .smod32K d imm => encBasic 0x94#8 d.num 0#4 1#16 imm
  | .smod32X d s => encBasic 0x9c#8 d.num s.num 1#16 0#32
  | .xor32K d imm => encBasic 0xa4#8 d.num 0#4 0#16 imm
  | .xor32X d s => encBasic 0xac#8 d.num s.num 0#16 0#32
  | .mov32K d imm => encBasic 0xb4#8 d.num 0#4 0#16 imm
  | .mov32X d s => encBasic 0xbc#8 d.num s.num 0#16 0#32
  | .movsx32From8 d s => encBasic 0xbc#8 d.num s.num 8#16 0#32
  | .movsx32From16 d s => encBasic 0xbc#8 d.num s.num 16#16 0#32
  | .arsh32K d imm => encBasic 0xc4#8 d.num 0#4 0#16 imm
  | .arsh32X d s => encBasic 0xcc#8 d.num s.num 0#16 0#32
  | .add64K d imm => encBasic 0x07#8 d.num 0#4 0#16 imm
  | .add64X d s => encBasic 0x0f#8 d.num s.num 0#16 0#32
  | .sub64K d imm => encBasic 0x17#8 d.num 0#4 0#16 imm
  | .sub64X d s => encBasic 0x1f#8 d.num s.num 0#16 0#32
  | .mul64K d imm => encBasic 0x27#8 d.num 0#4 0#16 imm
  | .mul64X d s => encBasic 0x2f#8 d.num s.num 0#16 0#32
  | .div64K d imm => encBasic 0x37#8 d.num 0#4 0#16 imm
  | .div64X d s => encBasic 0x3f#8 d.num s.num 0#16 0#32
  | .sdiv64K d imm => encBasic 0x37#8 d.num 0#4 1#16 imm
  | .sdiv64X d s => encBasic 0x3f#8 d.num s.num 1#16 0#32
  | .or64K d imm => encBasic 0x47#8 d.num 0#4 0#16 imm
  | .or64X d s => encBasic 0x4f#8 d.num s.num 0#16 0#32
  | .and64K d imm => encBasic 0x57#8 d.num 0#4 0#16 imm
  | .and64X d s => encBasic 0x5f#8 d.num s.num 0#16 0#32
  | .lsh64K d imm => encBasic 0x67#8 d.num 0#4 0#16 imm
  | .lsh64X d s => encBasic 0x6f#8 d.num s.num 0#16 0#32
  | .rsh64K d imm => encBasic 0x77#8 d.num 0#4 0#16 imm
  | .rsh64X d s => encBasic 0x7f#8 d.num s.num 0#16 0#32
  | .neg64 d => encBasic 0x87#8 d.num 0#4 0#16 0#32
  | .mod64K d imm => encBasic 0x97#8 d.num 0#4 0#16 imm
  | .mod64X d s => encBasic 0x9f#8 d.num s.num 0#16 0#32
  | .smod64K d imm => encBasic 0x97#8 d.num 0#4 1#16 imm
  | .smod64X d s => encBasic 0x9f#8 d.num s.num 1#16 0#32
  | .xor64K d imm => encBasic 0xa7#8 d.num 0#4 0#16 imm
  | .xor64X d s => encBasic 0xaf#8 d.num s.num 0#16 0#32
  | .mov64K d imm => encBasic 0xb7#8 d.num 0#4 0#16 imm
  | .mov64X d s => encBasic 0xbf#8 d.num s.num 0#16 0#32
  | .movsx64From8 d s => encBasic 0xbf#8 d.num s.num 8#16 0#32
  | .movsx64From16 d s => encBasic 0xbf#8 d.num s.num 16#16 0#32
  | .movsx64From32 d s => encBasic 0xbf#8 d.num s.num 32#16 0#32
  | .arsh64K d imm => encBasic 0xc7#8 d.num 0#4 0#16 imm
  | .arsh64X d s => encBasic 0xcf#8 d.num s.num 0#16 0#32
  | .le16 d => encBasic 0xd4#8 d.num 0#4 0#16 0x10#32
  | .le32 d => encBasic 0xd4#8 d.num 0#4 0#16 0x20#32
  | .le64 d => encBasic 0xd4#8 d.num 0#4 0#16 0x40#32
  | .be16 d => encBasic 0xdc#8 d.num 0#4 0#16 0x10#32
  | .be32 d => encBasic 0xdc#8 d.num 0#4 0#16 0x20#32
  | .be64 d => encBasic 0xdc#8 d.num 0#4 0#16 0x40#32
  | .bswap16 d => encBasic 0xd7#8 d.num 0#4 0#16 0x10#32
  | .bswap32 d => encBasic 0xd7#8 d.num 0#4 0#16 0x20#32
  | .bswap64 d => encBasic 0xd7#8 d.num 0#4 0#16 0x40#32
  | .ja off => encBasic 0x05#8 0#4 0#4 off 0#32
  | .ja32 imm => encBasic 0x06#8 0#4 0#4 0#16 imm
  | .jeq64K d imm off => encBasic 0x15#8 d.num 0#4 off imm
  | .jeq64X d s off => encBasic 0x1d#8 d.num s.num off 0#32
  | .jeq32K d imm off => encBasic 0x16#8 d.num 0#4 off imm
  | .jeq32X d s off => encBasic 0x1e#8 d.num s.num off 0#32
  | .jgt64K d imm off => encBasic 0x25#8 d.num 0#4 off imm
  | .jgt64X d s off => encBasic 0x2d#8 d.num s.num off 0#32
  | .jgt32K d imm off => encBasic 0x26#8 d.num 0#4 off imm
  | .jgt32X d s off => encBasic 0x2e#8 d.num s.num off 0#32
  | .jge64K d imm off => encBasic 0x35#8 d.num 0#4 off imm
  | .jge64X d s off => encBasic 0x3d#8 d.num s.num off 0#32
  | .jge32K d imm off => encBasic 0x36#8 d.num 0#4 off imm
  | .jge32X d s off => encBasic 0x3e#8 d.num s.num off 0#32
  | .jset64K d imm off => encBasic 0x45#8 d.num 0#4 off imm
  | .jset64X d s off => encBasic 0x4d#8 d.num s.num off 0#32
  | .jset32K d imm off => encBasic 0x46#8 d.num 0#4 off imm
  | .jset32X d s off => encBasic 0x4e#8 d.num s.num off 0#32
  | .jne64K d imm off => encBasic 0x55#8 d.num 0#4 off imm
  | .jne64X d s off => encBasic 0x5d#8 d.num s.num off 0#32
  | .jne32K d imm off => encBasic 0x56#8 d.num 0#4 off imm
  | .jne32X d s off => encBasic 0x5e#8 d.num s.num off 0#32
  | .jsgt64K d imm off => encBasic 0x65#8 d.num 0#4 off imm
  | .jsgt64X d s off => encBasic 0x6d#8 d.num s.num off 0#32
  | .jsgt32K d imm off => encBasic 0x66#8 d.num 0#4 off imm
  | .jsgt32X d s off => encBasic 0x6e#8 d.num s.num off 0#32
  | .jsge64K d imm off => encBasic 0x75#8 d.num 0#4 off imm
  | .jsge64X d s off => encBasic 0x7d#8 d.num s.num off 0#32
  | .jsge32K d imm off => encBasic 0x76#8 d.num 0#4 off imm
  | .jsge32X d s off => encBasic 0x7e#8 d.num s.num off 0#32
  | .jlt64K d imm off => encBasic 0xa5#8 d.num 0#4 off imm
  | .jlt64X d s off => encBasic 0xad#8 d.num s.num off 0#32
  | .jlt32K d imm off => encBasic 0xa6#8 d.num 0#4 off imm
  | .jlt32X d s off => encBasic 0xae#8 d.num s.num off 0#32
  | .jle64K d imm off => encBasic 0xb5#8 d.num 0#4 off imm
  | .jle64X d s off => encBasic 0xbd#8 d.num s.num off 0#32
  | .jle32K d imm off => encBasic 0xb6#8 d.num 0#4 off imm
  | .jle32X d s off => encBasic 0xbe#8 d.num s.num off 0#32
  | .jslt64K d imm off => encBasic 0xc5#8 d.num 0#4 off imm
  | .jslt64X d s off => encBasic 0xcd#8 d.num s.num off 0#32
  | .jslt32K d imm off => encBasic 0xc6#8 d.num 0#4 off imm
  | .jslt32X d s off => encBasic 0xce#8 d.num s.num off 0#32
  | .jsle64K d imm off => encBasic 0xd5#8 d.num 0#4 off imm
  | .jsle64X d s off => encBasic 0xdd#8 d.num s.num off 0#32
  | .jsle32K d imm off => encBasic 0xd6#8 d.num 0#4 off imm
  | .jsle32X d s off => encBasic 0xde#8 d.num s.num off 0#32
  | .callHelper imm => encBasic 0x85#8 0#4 0#4 0#16 imm
  | .callLocal imm => encBasic 0x85#8 0#4 1#4 0#16 imm
  | .callBtf imm => encBasic 0x85#8 0#4 2#4 0#16 imm
  | .exit => encBasic 0x95#8 0#4 0#4 0#16 0#32
  | .ldxB d s off => encBasic 0x71#8 d.num s.num off 0#32
  | .ldxH d s off => encBasic 0x69#8 d.num s.num off 0#32
  | .ldxW d s off => encBasic 0x61#8 d.num s.num off 0#32
  | .ldxDw d s off => encBasic 0x79#8 d.num s.num off 0#32
  | .stB d imm off => encBasic 0x72#8 d.num 0#4 off imm
  | .stH d imm off => encBasic 0x6a#8 d.num 0#4 off imm
  | .stW d imm off => encBasic 0x62#8 d.num 0#4 off imm
  | .stDw d imm off => encBasic 0x7a#8 d.num 0#4 off imm
  | .stxB d s off => encBasic 0x73#8 d.num s.num off 0#32
  | .stxH d s off => encBasic 0x6b#8 d.num s.num off 0#32
  | .stxW d s off => encBasic 0x63#8 d.num s.num off 0#32
  | .stxDw d s off => encBasic 0x7b#8 d.num s.num off 0#32
  | .ldxsB d s off => encBasic 0x91#8 d.num s.num off 0#32
  | .ldxsH d s off => encBasic 0x89#8 d.num s.num off 0#32
  | .ldxsW d s off => encBasic 0x81#8 d.num s.num off 0#32
  | .atomic32Add d s off => encBasic 0xc3#8 d.num s.num off 0x0#32
  | .atomic32FetchAdd d s off => encBasic 0xc3#8 d.num s.num off 0x1#32
  | .atomic32Or d s off => encBasic 0xc3#8 d.num s.num off 0x40#32
  | .atomic32FetchOr d s off => encBasic 0xc3#8 d.num s.num off 0x41#32
  | .atomic32And d s off => encBasic 0xc3#8 d.num s.num off 0x50#32
  | .atomic32FetchAnd d s off => encBasic 0xc3#8 d.num s.num off 0x51#32
  | .atomic32Xor d s off => encBasic 0xc3#8 d.num s.num off 0xa0#32
  | .atomic32FetchXor d s off => encBasic 0xc3#8 d.num s.num off 0xa1#32
  | .atomic32Xchg d s off => encBasic 0xc3#8 d.num s.num off 0xe1#32
  | .atomic32Cmpxchg d s off => encBasic 0xc3#8 d.num s.num off 0xf1#32
  | .atomic64Add d s off => encBasic 0xdb#8 d.num s.num off 0x0#32
  | .atomic64FetchAdd d s off => encBasic 0xdb#8 d.num s.num off 0x1#32
  | .atomic64Or d s off => encBasic 0xdb#8 d.num s.num off 0x40#32
  | .atomic64FetchOr d s off => encBasic 0xdb#8 d.num s.num off 0x41#32
  | .atomic64And d s off => encBasic 0xdb#8 d.num s.num off 0x50#32
  | .atomic64FetchAnd d s off => encBasic 0xdb#8 d.num s.num off 0x51#32
  | .atomic64Xor d s off => encBasic 0xdb#8 d.num s.num off 0xa0#32
  | .atomic64FetchXor d s off => encBasic 0xdb#8 d.num s.num off 0xa1#32
  | .atomic64Xchg d s off => encBasic 0xdb#8 d.num s.num off 0xe1#32
  | .atomic64Cmpxchg d s off => encBasic 0xdb#8 d.num s.num off 0xf1#32
  | .ldImm64 d imm next => encWide 0#4 d imm next
  | .ldMapFd d imm => encWide 1#4 d imm 0#32
  | .ldMapValFd d imm next => encWide 2#4 d imm next
  | .ldVarAddr d imm => encWide 3#4 d imm 0#32
  | .ldCodeAddr d imm => encWide 4#4 d imm 0#32
  | .ldMapIdx d imm => encWide 5#4 d imm 0#32
  | .ldMapValIdx d imm next => encWide 6#4 d imm next
  | .ldAbsW imm => encBasic 0x20#8 0#4 0#4 0#16 imm
  | .ldAbsH imm => encBasic 0x28#8 0#4 0#4 0#16 imm
  | .ldAbsB imm => encBasic 0x30#8 0#4 0#4 0#16 imm
  | .ldIndW s imm => encBasic 0x40#8 0#4 s.num 0#16 imm
  | .ldIndH s imm => encBasic 0x48#8 0#4 s.num 0#16 imm
  | .ldIndB s imm => encBasic 0x50#8 0#4 s.num 0#16 imm

/-- The slots of an instruction on a host: one, or two for a wide instruction (30_encoding.md R60). -/
def encodeSlots (e : Endian) (i : Instr) : List Slot :=
  match (encodeFields i).second with
  | none => [(encodeFields i).first.toSlot e]
  | some g => [(encodeFields i).first.toSlot e, g.toSlot e]

/-- The bytes of an instruction on a host, in the order of rising addresses (30_encoding.md R60, R61). -/
def encode (e : Endian) (i : Instr) : List Byte :=
  (encodeSlots e i).flatMap slotBytes

end Sys2Proof
end

