-- ==== Sys2Proof/Machine/Frames.lean ====
section
/-! DEFINITION. `FrameFor`, the frame address of each call depth (00_scope.md R7). -/

namespace Sys2Proof.Machine

/-- `FrameFor(depth)` (00_scope.md R7, log 8). -/
def frameFor (p : Platform) (depth : Nat) : Word := (p.frames[depth]?).getD (Config.frameBeyond depth)

end Sys2Proof.Machine
end

