-- ==== Sys2Proof/Machine/State.lean ====
section
/-! DEFINITION. The state of one program instance (10_state.md R20) as plain data, the reasons a step stops, and
the state at entry (10_state.md R35, 70_reset_and_hazards.md R360). -/

namespace Sys2Proof.Machine

/-- One register: a 64-bit value, and whether it has been written (10_state.md R20, R24). The value under a false
mark is never read (log 6). -/
structure Cell where
  val : Word
  written : Bool
  deriving DecidableEq, Repr

/-- The eleven general registers `x[0]` to `x[10]` (10_state.md R21). -/
structure RegFile where
  r0 : Cell
  r1 : Cell
  r2 : Cell
  r3 : Cell
  r4 : Cell
  r5 : Cell
  r6 : Cell
  r7 : Cell
  r8 : Cell
  r9 : Cell
  r10 : Cell
  deriving DecidableEq, Repr

/-- A frame of the call stack: the return slot, the saved cells `x[6]` to `x[9]`, and the caller's `x[10]`
(10_state.md R29). -/
structure Frame where
  ret : Int
  x6 : Cell
  x7 : Cell
  x8 : Cell
  x9 : Cell
  fp : Cell
  deriving DecidableEq, Repr

/-- The faults of the specification (60_exceptions.md R341), with what each records. Raising one is an effect the
specification gives: it sets `status` and the instance stops (R340), so a step that raises one answers a next
state (log 16). -/
inductive RunFault where
  /-- 1: fetch at slot index `t`, which is no instruction start of the program. -/
  | badPc (t : Int)
  /-- 2: the slot at `pc` does not decode, or its group is not supported. -/
  | illegalInstruction (pc : Int)
  /-- 3: the instruction would write `x[10]`. -/
  | framePointerWrite (pc : Int)
  /-- 4: the instruction reads an unwritten register. -/
  | unwrittenRegister (pc : Int) (r : Reg)
  /-- 5: a program-local call at the greatest depth. -/
  | callDepth (pc : Int)
  /-- 6: the platform exposes no such helper. -/
  | unknownHelper (pc : Int) (kind : HelperKind) (id : Word32)
  /-- 7: a platform function is undefined for the argument. -/
  | unknownObject (pc : Int) (kind : ObjectKind) (imm : Word32)
  /-- 8: a legacy packet instruction, which no source gives a meaning. -/
  | unmodelled (pc : Int)
  /-- 9: an access of `n` bytes at an address that is no multiple of `n`. -/
  | misaligned (addr : Word) (n : Nat)
  /-- 10: an access the platform does not admit. -/
  | memoryAccess (addr : Word) (n : Nat) (kind : AccessKind)
  /-- A fault of the platform's own, raised by a helper (R341, last paragraphs). -/
  | platform (pc : Int) (code : Nat)
  deriving DecidableEq, Repr

/-- The run status (10_state.md R30). -/
inductive Status where
  | running
  | exited (v : Word)
  | faulted (f : RunFault)
  deriving DecidableEq, Repr

/-- Why the machine has no step at all. -/
inductive Fault where
  /-- Raised by `step` when the instance has exited or faulted: "From Exited or Faulted there is no step"
  (60_exceptions.md R355). Safe: the specification has no step there either. -/
  | stopped
  deriving DecidableEq, Repr

/-- Why an instruction has no meaning. -/
inductive Refusal where
  /-- Raised by `exec` for an instruction with no meaning yet, by its mnemonic. No arm of this model raises it.
  Safe: nothing follows from a refusal. -/
  | notModelled (mnemonic : String)
  deriving DecidableEq, Repr

/-- Data memory: the bytes stored, by address, in rising order; an unlisted byte has not been stored by the
instance or a helper (20_memory.md R40, R56). -/
abbrev Memory := List Host.Cell

/-- The state. The first five fields are the specification's state (10_state.md R20); `prog` and `cfg` are its
parameters (00_scope.md R7), which no step changes; `tick` is the model's own (log 15). -/
structure State where
  /-- `x[0]` to `x[10]`. -/
  x : RegFile
  /-- The program counter, a slot index (10_state.md R26, R27). -/
  pc : Int
  /-- The active program-local calls, innermost last (10_state.md R29). -/
  callstack : List Frame
  /-- The run status (10_state.md R30). -/
  status : Status
  /-- Data memory (20_memory.md R40). -/
  mem : Memory
  /-- `PROG`, the program text (00_scope.md R7, 30_encoding.md R60). -/
  prog : List Slot
  /-- The rest of the configuration (00_scope.md R7). -/
  cfg : Platform
  /-- Steps taken: the index of the free values (70_reset_and_hazards.md R369, log 15). -/
  tick : Nat
  deriving DecidableEq, Repr

/-- An unwritten register with the value log 6 names. -/
def Cell.unwritten : Cell := { val := 0#64, written := false }

/-- The frame address of depth `k` at reset: 0x10000 - 0x200 k, the spec's test platform (DESIGN CHOICE, log 8). -/
def resetFrame (k : Nat) : Word := BitVec.ofNat 64 (0x10000 - 0x200 * k)

/-- The stack frame region of depth `k` at reset: the 512 bytes below its frame address (DESIGN CHOICE, log 9). -/
def resetRegion (k : Nat) : Region :=
  { base := BitVec.ofNat 64 (0x10000 - 0x200 * (k + 1)), size := 512, read := true, write := true, atomic := true
    widths := [1, 2, 4, 8], shared := false, frame := some k }

/-- The configuration at reset: the defaults of 00_scope.md R7 where it gives one; logs 1, 5, 7, 8, 9, 10, 11 for the
rest. -/
def resetPlatform : Platform :=
  { hostEndian := .little
    groups := [.base32, .base64, .atomic32, .atomic64, .divmul32, .divmul64]
    strictUnused := true
    alignRequired := true
    unwrittenRaises := false
    entry := { ctx := 0#64, x2 := none, x3 := none, x4 := none, x5 := none }
    maxCallDepth := some 8
    frames := (List.range 9).map resetFrame
    regions := (List.range 9).map resetRegion
    helpers := []
    mapsByFd := []
    mapsByIdx := []
    mapVals := []
    vars := []
    codeAddrs := [] }

/-- A register the platform may supply at entry: written when it does (10_state.md R35). -/
def Cell.supplied (v : Option Word) : Cell :=
  match v with
  | none => .unwritten
  | some v => { val := v, written := true }

/-- The registers at entry (10_state.md R35): `x[1]` holds `ENTRY.ctx`, `x[2]` to `x[5]` what `ENTRY` supplies,
`x[10]` holds `ENTRY.fp`, which is `FrameFor(0)`; the others are unwritten (log 6). -/
def RegFile.entry (p : Platform) : RegFile :=
  { r0 := .unwritten, r1 := { val := p.entry.ctx, written := true }
    r2 := .supplied p.entry.x2, r3 := .supplied p.entry.x3, r4 := .supplied p.entry.x4, r5 := .supplied p.entry.x5
    r6 := .unwritten, r7 := .unwritten, r8 := .unwritten, r9 := .unwritten
    r10 := { val := frameFor p 0, written := true } }

/-- The start of one program instance under a configuration and a program (10_state.md R35,
70_reset_and_hazards.md R360, R362). -/
def State.enter (p : Platform) (prog : List Slot) : State :=
  { x := .entry p, pc := 0, callstack := [], status := .running, mem := [], prog := prog, cfg := p, tick := 0 }

/-- The machine at the start of a program instance (10_state.md R35, 70_reset_and_hazards.md R360), under the
configuration the logs name and with no program loaded yet (log 17). -/
def State.reset : State := .enter resetPlatform []

end Sys2Proof.Machine
end

