-- ==== Sys2Proof/Machine/Memory.lean ====
section
/-! DEFINITION. Data memory: the canonical list of stored bytes, what one byte reads as, and which accesses are
admitted (20_memory.md R40 to R56). -/

namespace Sys2Proof

/-- The region holds the address. -/
def Region.holds (r : Region) (a : Nat) : Bool :=
  decide (r.base.toNat ≤ a) && decide (a < r.base.toNat + r.size)

/-- The region permits the kind of access (20_memory.md R46). -/
def Region.permits (r : Region) (kind : AccessKind) : Bool :=
  match kind with
  | .read => r.read
  | .write => r.write
  | .atomic => r.atomic

/-- The region is in force at call depth `depth`: it is no stack frame, or the frame of the current or a caller's
depth (20_memory.md R46). -/
def Region.inForce (r : Region) (depth : Nat) : Bool :=
  match r.frame with
  | none => true
  | some k => decide (k ≤ depth)

end Sys2Proof

namespace Sys2Proof.Machine

/-- The canonical form: addresses strictly rising, every address below 2^64 (20_memory.md R40). An unlisted
address has no stored value, so no entry can repeat one. -/
def Memory.wf (m : Memory) : Bool :=
  match m with
  | [] => true
  | [c] => decide (c.1 < 2 ^ 64)
  | c :: d :: rest => decide (c.1 < d.1) && Memory.wf (d :: rest)

/-- The byte last stored at an address, none where nothing was. -/
def Memory.get? (m : Memory) (a : Nat) : Option Byte :=
  match m with
  | [] => none
  | c :: rest => if c.1 = a then some c.2 else Memory.get? rest a

/-- Store one byte, keeping the canonical form. -/
def Memory.put (m : Memory) (a : Nat) (b : Byte) : Memory :=
  match m with
  | [] => [(a, b)]
  | c :: rest =>
    if a < c.1 then (a, b) :: c :: rest
    else if a = c.1 then (a, b) :: rest
    else c :: Memory.put rest a b

/-- Store bytes at rising addresses from `a`, addresses modulo 2^64 (20_memory.md R45). -/
def Memory.putBytes (m : Memory) (a : Word) (bs : List Byte) : Memory :=
  match bs with
  | [] => m
  | b :: rest => Memory.putBytes (m.put a.toNat b) (a + 1#64) rest

/-- Store bytes each at its own address, in order. -/
def Memory.putAll (m : Memory) (ws : List (Word × Byte)) : Memory :=
  match ws with
  | [] => m
  | w :: rest => Memory.putAll (m.put w.1.toNat w.2) rest

/-- `MemAdmit(addr, n, kind)`: the `n` bytes do not wrap and all lie inside one region that is in force and
permits accesses of this kind and width (20_memory.md R46, log 9). -/
def memAdmit (s : State) (addr : Word) (n : Nat) (kind : AccessKind) : Bool :=
  decide (addr.toNat + n ≤ 2 ^ 64) &&
    s.cfg.regions.any fun r =>
      r.permits kind && r.widths.contains n && r.inForce s.callstack.length && decide (r.base.toNat ≤ addr.toNat) &&
        decide (addr.toNat + n ≤ r.base.toNat + r.size)

/-- Another agent may write the byte at the address (20_memory.md R56). -/
def isShared (s : State) (a : Nat) : Bool := s.cfg.regions.any fun r => r.shared && r.holds a

/-- The instance's own latest store to the byte, or the byte's unspecified content (20_memory.md R56, log 13). -/
def ownByte (s : State) (a : Nat) : Byte := (s.mem.get? a).getD (Config.initialByte a)

/-- What the byte at an address reads as (20_memory.md R44 step 3, R53, R56): in a shared region any value the
oracle supplies or the instance's own latest store, elsewhere the latest store. -/
def byteAt (s : State) (a : Nat) : Byte :=
  if isShared s a then (Config.oracle s.tick a).getD (ownByte s a) else ownByte s a

/-- The bytes at `addr`, `addr + 1`, ..., addresses modulo 2^64. -/
def bytesAt (s : State) (addr : Word) (n : Nat) : List Byte :=
  match n with
  | 0 => []
  | n + 1 => byteAt s addr.toNat :: bytesAt s (addr + 1#64) n

/-- The `8n`-bit value at `addr` in host byte order, zero-extended (20_memory.md R44 step 4). -/
def valueAt (s : State) (addr : Word) (n : Nat) : Word := hostValue s.cfg.hostEndian (bytesAt s addr n)

/-- The state with the low `8n` bits of `v` stored at `addr` in host byte order (20_memory.md R45). -/
def storeAt (s : State) (addr : Word) (n : Nat) (v : Word) : State :=
  { s with mem := s.mem.putBytes addr (hostBytes s.cfg.hostEndian n v) }

end Sys2Proof.Machine
end

