-- ==== Sys2Proof/Machine/Operands.lean ====
section
/-! DEFINITION. Operand forms: how fields become operand values (30_encoding.md R72), the effective address
(20_memory.md R42), and the arithmetic whose cases the specification lists (40_alu32.md R102, R103;
41_alu64.md R142, R143). -/

namespace Sys2Proof.Machine

/-- `lo32(v)` (00_scope.md R12). -/
def lo32 (v : Word) : Word32 := v.setWidth 32

/-- A 32-bit result as a register value, upper 32 bits zero (40_alu32.md R100). -/
def zext32 (v : Word32) : Word := v.setWidth 64

/-- `sext_64(imm)` (30_encoding.md R72). -/
def immWord (imm : Word32) : Word := imm.signExtend 64

/-- `sext_64(offset)` (20_memory.md R42). -/
def offWord (off : Word16) : Word := off.signExtend 64

/-- The effective address: base plus sign-extended offset, modulo 2^64 (20_memory.md R42). -/
def effAddr (base : Word) (off : Word16) : Word := base + offWord off

/-- The shift amount of class ALU: masked with 0x1f (40_alu32.md R102). -/
def shiftAmount32 (b : Word32) : Nat := (b &&& 0x1f#32).toNat

/-- The shift amount of class ALU64: masked with 0x3f (41_alu64.md R142). -/
def shiftAmount64 (b : Word) : Nat := (b &&& 0x3f#64).toNat

/-- The most negative `w`-bit number: INT_MIN, LLONG_MIN (40_alu32.md R103, 41_alu64.md R143). -/
def minSigned (w : Nat) : BitVec w := BitVec.ofNat w (2 ^ (w - 1))

/-- `DIV`: unsigned quotient, 0 for a zero divisor (40_alu32.md R103, 41_alu64.md R143). -/
def divU {w : Nat} (a b : BitVec w) : BitVec w :=
  if b = 0#w then 0#w else BitVec.ofNat w (a.toNat / b.toNat)

/-- `MOD`: unsigned remainder, the dividend for a zero divisor (40_alu32.md R103, 41_alu64.md R143). -/
def modU {w : Nat} (a b : BitVec w) : BitVec w :=
  if b = 0#w then a else BitVec.ofNat w (a.toNat % b.toNat)

/-- `SDIV`: quotient rounded toward zero, 0 for a zero divisor, the dividend for the most negative number by -1
(40_alu32.md R103, 41_alu64.md R143). -/
def divS {w : Nat} (a b : BitVec w) : BitVec w :=
  if b = 0#w then 0#w
  else if a = minSigned w ∧ b = -1#w then minSigned w
  else BitVec.ofInt w (a.toInt.tdiv b.toInt)

/-- `SMOD`: remainder with the sign of the dividend, the dividend for a zero divisor, 0 for the most negative
number by -1 (40_alu32.md R103, 41_alu64.md R143). -/
def modS {w : Nat} (a b : BitVec w) : BitVec w :=
  if b = 0#w then a
  else if a = minSigned w ∧ b = -1#w then 0#w
  else BitVec.ofInt w (a.toInt.tmod b.toInt)

/-- A loaded value of `bits` bits, sign-extended (44_load_store.md R262). -/
def signExtendFrom (bits : Nat) (v : Word) : Word := (v.setWidth bits).signExtend 64

end Sys2Proof.Machine
end

