-- ==== Sys2Proof/Machine/Flags.lean ====
section
/-! DEFINITION. The machine has no flags (10_state.md R31): a conditional jump compares two operands itself. These
are the eleven comparisons (43_jump.md R200, R202), at any width. -/

namespace Sys2Proof.Machine

/-- `JEQ`: dst == src. -/
def condEq {w : Nat} (a b : BitVec w) : Bool := a == b

/-- `JNE`: dst != src. -/
def condNe {w : Nat} (a b : BitVec w) : Bool := a != b

/-- `JSET`: dst & src is not zero. -/
def condSet {w : Nat} (a b : BitVec w) : Bool := (a &&& b) != 0#w

/-- `JGT`: dst > src, unsigned. -/
def condGt {w : Nat} (a b : BitVec w) : Bool := decide (b.toNat < a.toNat)

/-- `JGE`: dst >= src, unsigned. -/
def condGe {w : Nat} (a b : BitVec w) : Bool := decide (b.toNat ≤ a.toNat)

/-- `JLT`: dst < src, unsigned. -/
def condLt {w : Nat} (a b : BitVec w) : Bool := decide (a.toNat < b.toNat)

/-- `JLE`: dst <= src, unsigned. -/
def condLe {w : Nat} (a b : BitVec w) : Bool := decide (a.toNat ≤ b.toNat)

/-- `JSGT`: dst > src, signed. -/
def condSgt {w : Nat} (a b : BitVec w) : Bool := decide (b.toInt < a.toInt)

/-- `JSGE`: dst >= src, signed. -/
def condSge {w : Nat} (a b : BitVec w) : Bool := decide (b.toInt ≤ a.toInt)

/-- `JSLT`: dst < src, signed. -/
def condSlt {w : Nat} (a b : BitVec w) : Bool := decide (a.toInt < b.toInt)

/-- `JSLE`: dst <= src, signed. -/
def condSle {w : Nat} (a b : BitVec w) : Bool := decide (a.toInt ≤ b.toInt)

end Sys2Proof.Machine
end

