-- ==== Sys2Proof/Machine/Ops.lean ====
section
/-! DEFINITION. The shared operations: registers, faults, memory accesses, jumps, calls. Every meaning is one line
over these. -/

namespace Sys2Proof.Machine

/-! ### Registers -/

/-- The cell of a register. -/
def RegFile.get (x : RegFile) (r : Reg) : Cell :=
  match r with
  | .r0 => x.r0
  | .r1 => x.r1
  | .r2 => x.r2
  | .r3 => x.r3
  | .r4 => x.r4
  | .r5 => x.r5
  | .r6 => x.r6
  | .r7 => x.r7
  | .r8 => x.r8
  | .r9 => x.r9
  | .r10 => x.r10

/-- The registers with one cell replaced. -/
def RegFile.set (x : RegFile) (r : Reg) (c : Cell) : RegFile :=
  match r with
  | .r0 => { x with r0 := c }
  | .r1 => { x with r1 := c }
  | .r2 => { x with r2 := c }
  | .r3 => { x with r3 := c }
  | .r4 => { x with r4 := c }
  | .r5 => { x with r5 := c }
  | .r6 => { x with r6 := c }
  | .r7 => { x with r7 := c }
  | .r8 => { x with r8 := c }
  | .r9 => { x with r9 := c }
  | .r10 => { x with r10 := c }

/-- A written cell. -/
def Cell.of (v : Word) : Cell := { val := v, written := true }

/-- The same cell marked unwritten (10_state.md R24). -/
def Cell.forget (c : Cell) : Cell := { val := c.val, written := false }

/-- `x[r] <- v` (00_scope.md R12). -/
def writeReg (s : State) (r : Reg) (v : Word) : State := { s with x := s.x.set r (.of v) }

/-- `x[1..5] <- unwritten` (43_jump.md R252 to R256). -/
def forgetArgs (x : RegFile) : RegFile :=
  { x with r1 := x.r1.forget, r2 := x.r2.forget, r3 := x.r3.forget, r4 := x.r4.forget, r5 := x.r5.forget }

/-- The value an operand read gives: the register's value when it is written, else a free value, its own for each
step and operand position (10_state.md R24, second reading; log 5). -/
def operand (s : State) (pos : Nat) (r : Reg) : Word :=
  if (s.x.get r).written then (s.x.get r).val else Config.unwrittenValue s.tick pos

/-- `x[dst_reg]` as an operand. -/
def dstVal (s : State) (d : Reg) : Word := operand s 0 d

/-- `x[src_reg]` as an operand. -/
def srcVal (s : State) (r : Reg) : Word := operand s 1 r

/-- `x[0]` as an implicit operand (10_state.md R25). -/
def r0Val (s : State) : Word := operand s 2 .r0

/-- The registers by number. -/
def allRegs : List Reg := [.r0, .r1, .r2, .r3, .r4, .r5, .r6, .r7, .r8, .r9, .r10]

/-! ### Faults -/

/-- TAKING A FAULT, the machine's one exception mechanism: `status <- Faulted(f)`, and no register, no `pc`, no
`callstack` entry and no byte of data memory changes (60_exceptions.md R340). There is no handler, so there is no
return from one (R343, R344). -/
def raise (s : State) (f : RunFault) : State := { s with status := .faulted f }

/-- What executing an instruction's rule comes to: its writes, or the one fault it raises (60_exceptions.md R355). -/
abbrev Effect := Except RunFault State

/-- The next state of an effect: all of it, or the fault alone (60_exceptions.md R340, R355). -/
def finish (s : State) (e : Effect) : State :=
  match e with
  | .ok t => t
  | .error f => raise s f

/-- The outcome of an effect. -/
def settle (s : State) (e : Effect) : Host.Outcome State Fault Refusal := .next (finish s e)

/-- Go on unless the instruction would write `x[10]` (10_state.md R23; third in priority, 60_exceptions.md R342). -/
def guardWrite (s : State) (r : Reg) (k : Effect) : Effect :=
  if r = .r10 then .error (.framePointerWrite s.pc) else k

/-- The fault of reading these registers: the lowest-numbered unwritten one, when the platform raises on such a
read (10_state.md R24, 60_exceptions.md R342; log 5). -/
def readFault (s : State) (rs : List Reg) : Option RunFault :=
  if s.cfg.unwrittenRaises then
    (allRegs.find? fun r => rs.contains r && !(s.x.get r).written).map (RunFault.unwrittenRegister s.pc)
  else none

/-- Go on unless reading these registers faults (fourth in priority, 60_exceptions.md R342). -/
def guardRead (s : State) (rs : List Reg) (k : Effect) : Effect :=
  match readFault s rs with
  | some f => .error f
  | none => k

/-- `pc <- pc + n` (10_state.md R26). -/
def advance (s : State) (n : Int) : State := { s with pc := s.pc + n }

/-! ### Arithmetic -/

/-- `x[d] <- v ; pc <- pc + 1`, after the checks, for an instruction that reads `rs`. -/
def writeResult (s : State) (d : Reg) (rs : List Reg) (v : Word) : Host.Outcome State Fault Refusal :=
  settle s (guardWrite s d (guardRead s rs (.ok (advance (writeReg s d v) 1))))

/-- Class ALU, `K` form (40_alu32.md R100, R101). -/
def alu32K (op : Word32 → Word32 → Word32) (d : Reg) (imm : Word32) (s : State) :
    Host.Outcome State Fault Refusal :=
  writeResult s d [d] (zext32 (op (lo32 (dstVal s d)) imm))

/-- Class ALU, `X` form (40_alu32.md R100). -/
def alu32X (op : Word32 → Word32 → Word32) (d r : Reg) (s : State) : Host.Outcome State Fault Refusal :=
  writeResult s d [d, r] (zext32 (op (lo32 (dstVal s d)) (lo32 (srcVal s r))))

/-- Class ALU64, `K` form (41_alu64.md R140, R141). -/
def alu64K (op : Word → Word → Word) (d : Reg) (imm : Word32) (s : State) : Host.Outcome State Fault Refusal :=
  writeResult s d [d] (op (dstVal s d) (immWord imm))

/-- Class ALU64, `X` form (41_alu64.md R140). -/
def alu64X (op : Word → Word → Word) (d r : Reg) (s : State) : Host.Outcome State Fault Refusal :=
  writeResult s d [d, r] (op (dstVal s d) (srcVal s r))

/-! ### Jumps -/

/-- A taken jump: `pc <- pc + 1 + k`, an integer sum (43_jump.md R201). -/
def jumpBy (s : State) (k : Int) : State := { s with pc := s.pc + 1 + k }

/-- A conditional jump that reads `rs` (43_jump.md R201). -/
def jumpIf (s : State) (rs : List Reg) (taken : Bool) (off : Word16) : Host.Outcome State Fault Refusal :=
  settle s (guardRead s rs (.ok (if taken then jumpBy s off.toInt else advance s 1)))

/-- A conditional jump of class JMP, `K` form (43_jump.md R202). -/
def jump64K (c : Word → Word → Bool) (d : Reg) (imm : Word32) (off : Word16) (s : State) :
    Host.Outcome State Fault Refusal :=
  jumpIf s [d] (c (dstVal s d) (immWord imm)) off

/-- A conditional jump of class JMP, `X` form (43_jump.md R202). -/
def jump64X (c : Word → Word → Bool) (d r : Reg) (off : Word16) (s : State) : Host.Outcome State Fault Refusal :=
  jumpIf s [d, r] (c (dstVal s d) (srcVal s r)) off

/-- A conditional jump of class JMP32, `K` form (43_jump.md R202). -/
def jump32K (c : Word32 → Word32 → Bool) (d : Reg) (imm : Word32) (off : Word16) (s : State) :
    Host.Outcome State Fault Refusal :=
  jumpIf s [d] (c (lo32 (dstVal s d)) imm) off

/-- A conditional jump of class JMP32, `X` form (43_jump.md R202). -/
def jump32X (c : Word32 → Word32 → Bool) (d r : Reg) (off : Word16) (s : State) :
    Host.Outcome State Fault Refusal :=
  jumpIf s [d, r] (c (lo32 (dstVal s d)) (lo32 (srcVal s r))) off

/-! ### Data memory -/

/-- The alignment check of a plain access (20_memory.md R44 step 1, R47). -/
def plainMisaligned (s : State) (addr : Word) (n : Nat) : Bool :=
  s.cfg.alignRequired && decide (addr.toNat % n ≠ 0)

/-- `MemRead(addr, n)` (20_memory.md R44), zero-extended. -/
def memRead (s : State) (addr : Word) (n : Nat) : Except RunFault Word :=
  if plainMisaligned s addr n then .error (.misaligned addr n)
  else if memAdmit s addr n .read then .ok (valueAt s addr n)
  else .error (.memoryAccess addr n .read)

/-- `MemWrite(addr, n, v)` (20_memory.md R45), storing the low `8n` bits of `v`. -/
def memWrite (s : State) (addr : Word) (n : Nat) (v : Word) : Effect :=
  if plainMisaligned s addr n then .error (.misaligned addr n)
  else if memAdmit s addr n .write then .ok (storeAt s addr n v)
  else .error (.memoryAccess addr n .write)

/-- `AtomicRMW(addr, n, f)` (20_memory.md R52): the old value, zero-extended, and the state with `f(old)` stored.
Alignment is needed whatever `ALIGN_REQUIRED` says. -/
def atomicRmw (s : State) (addr : Word) (n : Nat) (f : Word → Word) : Except RunFault (Word × State) :=
  if addr.toNat % n ≠ 0 then .error (.misaligned addr n)
  else if memAdmit s addr n .atomic then .ok (valueAt s addr n, storeAt s addr n (f (valueAt s addr n)))
  else .error (.memoryAccess addr n .atomic)

/-- The address of a store or an atomic operation, `x[d] + sext(offset)` (20_memory.md R42). -/
def storeAddr (s : State) (d : Reg) (off : Word16) : Word := effAddr (dstVal s d) off

/-- The address of a load, `x[s] + sext(offset)` (20_memory.md R42). -/
def loadAddr (s : State) (r : Reg) (off : Word16) : Word := effAddr (srcVal s r) off

/-- A load of `n` bytes, extended into the register by `ext` (44_load_store.md R261, R262). -/
def load (n : Nat) (ext : Word → Word) (d r : Reg) (off : Word16) (s : State) :
    Host.Outcome State Fault Refusal :=
  settle s (guardWrite s d (guardRead s [r]
    (match memRead s (loadAddr s r off) n with
    | .ok v => .ok (advance (writeReg s d (ext v)) 1)
    | .error f => .error f)))

/-- A store of `n` bytes by an instruction that reads `rs` (44_load_store.md R261). -/
def store (n : Nat) (rs : List Reg) (addr v : Word) (s : State) : Host.Outcome State Fault Refusal :=
  settle s (guardRead s rs
    (match memWrite s addr n v with
    | .ok t => .ok (advance t 1)
    | .error f => .error f))

/-- `ST`: the sign-extended immediate, truncated to the width (44_load_store.md R261). -/
def storeK (n : Nat) (d : Reg) (imm : Word32) (off : Word16) (s : State) : Host.Outcome State Fault Refusal :=
  store n [d] (storeAddr s d off) (immWord imm) s

/-- `STX`: the register, truncated to the width (44_load_store.md R261). -/
def storeX (n : Nat) (d r : Reg) (off : Word16) (s : State) : Host.Outcome State Fault Refusal :=
  store n [d, r] (storeAddr s d off) (srcVal s r) s

/-! ### Atomic operations -/

/-- A simple atomic operation without FETCH: no register is written (45_atomic.md R281, R282). `f old operand` is
the new value; its low `8n` bits are stored. -/
def atomicPlain (n : Nat) (f : Word → Word → Word) (d r : Reg) (off : Word16) (s : State) :
    Host.Outcome State Fault Refusal :=
  settle s (guardRead s [d, r]
    (match atomicRmw s (storeAddr s d off) n (fun old => f old (srcVal s r)) with
    | .ok (_, t) => .ok (advance t 1)
    | .error e => .error e))

/-- An atomic operation with FETCH, XCHG among them: `x[s]` receives the old value, zero-extended
(45_atomic.md R282, R283). -/
def atomicFetch (n : Nat) (f : Word → Word → Word) (d r : Reg) (off : Word16) (s : State) :
    Host.Outcome State Fault Refusal :=
  settle s (guardWrite s r (guardRead s [d, r]
    (match atomicRmw s (storeAddr s d off) n (fun old => f old (srcVal s r)) with
    | .ok (old, t) => .ok (advance (writeReg t r old) 1)
    | .error e => .error e)))

/-- CMPXCHG: memory is compared with `x[0]`, `cmp` says on which bits; `x[0]` receives the old value, zero-extended
(45_atomic.md R283, R293, R303; log 22). -/
def atomicCmpxchg (n : Nat) (cmp : Word → Word → Bool) (d r : Reg) (off : Word16) (s : State) :
    Host.Outcome State Fault Refusal :=
  settle s (guardRead s [d, r, .r0]
    (match atomicRmw s (storeAddr s d off) n (fun old => if cmp old (r0Val s) then srcVal s r else old) with
    | .ok (old, t) => .ok (advance (writeReg t .r0 old) 1)
    | .error e => .error e))

/-! ### Calls and returns -/

/-- What a helper sees of an argument register: its value, none where it is unwritten (43_jump.md R252). -/
def Cell.arg (c : Cell) : Option Word := if c.written then some c.val else none

/-- The arguments `x[1]` to `x[5]` (43_jump.md R252). -/
def helperArgs (x : RegFile) : List (Option Word) := [x.r1.arg, x.r2.arg, x.r3.arg, x.r4.arg, x.r5.arg]

/-- The state after a helper has returned (43_jump.md R252, R255). -/
def afterHelper (s : State) (result : Word) (writes : List (Word × Byte)) : State :=
  { s with x := forgetArgs (s.x.set .r0 (.of result)), mem := s.mem.putAll writes, pc := s.pc + 1 }

/-- A helper call (43_jump.md R252, R254). A helper that has not returned leaves the state, and is called again
(log 21). -/
def callHelper (kind : HelperKind) (id : Word32) (s : State) : Host.Outcome State Fault Refusal :=
  settle s
    (if s.cfg.helpers.contains (kind, id) then
      match Config.helperCall s.tick kind id (helperArgs s.x) s.mem with
      | .returns result writes => .ok (afterHelper s result writes)
      | .faults code => .error (.platform s.pc code)
      | .stillRunning => .ok s
    else .error (.unknownHelper s.pc kind id))

/-- A program-local call may not nest deeper (43_jump.md R253, `MAX_CALL_DEPTH`). -/
def depthReached (s : State) : Bool :=
  match s.cfg.maxCallDepth with
  | none => false
  | some n => decide (n ≤ s.callstack.length)

/-- The frame a program-local call pushes: cells as they are, written or unwritten (43_jump.md R253). -/
def callFrame (s : State) : Frame :=
  { ret := s.pc + 1, x6 := s.x.r6, x7 := s.x.r7, x8 := s.x.r8, x9 := s.x.r9, fp := s.x.r10 }

/-- The registers a callee starts with (43_jump.md R253, R255). -/
def calleeRegs (s : State) : RegFile :=
  { s.x with
    r0 := s.x.r0.forget
    r6 := s.x.r6.forget
    r7 := s.x.r7.forget
    r8 := s.x.r8.forget
    r9 := s.x.r9.forget
    r10 := .of (frameFor s.cfg (s.callstack.length + 1)) }

/-- The state a program-local call enters (43_jump.md R253). -/
def enterCallee (s : State) (disp : Int) : State :=
  { s with x := calleeRegs s, callstack := s.callstack ++ [callFrame s], pc := s.pc + 1 + disp }

/-- A program-local call (43_jump.md R253). -/
def callLocal (disp : Int) (s : State) : Host.Outcome State Fault Refusal :=
  settle s (if depthReached s then .error (.callDepth s.pc) else .ok (enterCallee s disp))

/-- The registers a caller goes on with (43_jump.md R255, R256). -/
def callerRegs (x : RegFile) (f : Frame) : RegFile :=
  { forgetArgs x with r6 := f.x6, r7 := f.x7, r8 := f.x8, r9 := f.x9, r10 := f.fp }

/-- The state a return to the caller leaves (43_jump.md R256). -/
def returnTo (s : State) (f : Frame) : State :=
  { s with x := callerRegs s.x f, callstack := s.callstack.dropLast, pc := f.ret }

/-- `EXIT`: return to the caller, or end the program with `x[0]` as its result (43_jump.md R256). -/
def exitOrReturn (s : State) : Host.Outcome State Fault Refusal :=
  settle s
    (match s.callstack.getLast? with
    | none => guardRead s [.r0] (.ok { s with status := .exited (r0Val s) })
    | some f => .ok (returnTo s f))

/-! ### Platform objects -/

/-- The value a table binds to an argument: a partial function (46_imm64.md R307). -/
def lookup {α β : Type} [DecidableEq α] (t : List (α × β)) (a : α) : Option β :=
  match t with
  | [] => none
  | p :: rest => if p.1 = a then some p.2 else lookup rest a

/-- `x[d] <- v ; pc <- pc + 2`, where `v` may be undefined (46_imm64.md R306, R307). -/
def writeObject (s : State) (d : Reg) (kind : ObjectKind) (imm : Word32) (v : Option Word) :
    Host.Outcome State Fault Refusal :=
  settle s (guardWrite s d
    (match v with
    | some a => .ok (advance (writeReg s d a) 2)
    | none => .error (.unknownObject s.pc kind imm)))

/-- `code_addr` of a slot index: undefined outside the program (46_imm64.md R307, R314; log 11). -/
def codeAddr (s : State) (slot : Int) : Option Word :=
  if 0 ≤ slot ∧ slot < s.prog.length then lookup s.cfg.codeAddrs slot.toNat else none

end Sys2Proof.Machine
end

