-- ==== Sys2Proof/Machine/Alu32.lean ====
section
/-! DEFINITION. Class ALU: 32-bit arithmetic (40_alu32.md R100 to R135). -/

namespace Sys2Proof.Machine

/-- `ADD32_K`: 32-bit add, with an immediate (40_alu32.md R105). -/
def execAdd32K (d : Reg) (imm : Word32) (s : State) : Host.Outcome State Fault Refusal :=
  alu32K (fun a b => a + b) d imm s

/-- `ADD32_X`: 32-bit add, with a register (40_alu32.md R106). -/
def execAdd32X (d r : Reg) (s : State) : Host.Outcome State Fault Refusal :=
  alu32X (fun a b => a + b) d r s

/-- `SUB32_K`: 32-bit subtract, with an immediate (40_alu32.md R107). -/
def execSub32K (d : Reg) (imm : Word32) (s : State) : Host.Outcome State Fault Refusal :=
  alu32K (fun a b => a - b) d imm s

/-- `SUB32_X`: 32-bit subtract, with a register (40_alu32.md R108). -/
def execSub32X (d r : Reg) (s : State) : Host.Outcome State Fault Refusal :=
  alu32X (fun a b => a - b) d r s

/-- `MUL32_K`: 32-bit multiply, with an immediate (40_alu32.md R109). -/
def execMul32K (d : Reg) (imm : Word32) (s : State) : Host.Outcome State Fault Refusal :=
  alu32K (fun a b => a * b) d imm s

/-- `MUL32_X`: 32-bit multiply, with a register (40_alu32.md R110). -/
def execMul32X (d r : Reg) (s : State) : Host.Outcome State Fault Refusal :=
  alu32X (fun a b => a * b) d r s

/-- `DIV32_K`: 32-bit unsigned quotient, with an immediate (40_alu32.md R111). -/
def execDiv32K (d : Reg) (imm : Word32) (s : State) : Host.Outcome State Fault Refusal :=
  alu32K (fun a b => divU a b) d imm s

/-- `DIV32_X`: 32-bit unsigned quotient, with a register (40_alu32.md R112). -/
def execDiv32X (d r : Reg) (s : State) : Host.Outcome State Fault Refusal :=
  alu32X (fun a b => divU a b) d r s

/-- `SDIV32_K`: 32-bit signed quotient, with an immediate (40_alu32.md R113). -/
def execSdiv32K (d : Reg) (imm : Word32) (s : State) : Host.Outcome State Fault Refusal :=
  alu32K (fun a b => divS a b) d imm s

/-- `SDIV32_X`: 32-bit signed quotient, with a register (40_alu32.md R114). -/
def execSdiv32X (d r : Reg) (s : State) : Host.Outcome State Fault Refusal :=
  alu32X (fun a b => divS a b) d r s

/-- `OR32_K`: 32-bit or, with an immediate (40_alu32.md R115). -/
def execOr32K (d : Reg) (imm : Word32) (s : State) : Host.Outcome State Fault Refusal :=
  alu32K (fun a b => a ||| b) d imm s

/-- `OR32_X`: 32-bit or, with a register (40_alu32.md R116). -/
def execOr32X (d r : Reg) (s : State) : Host.Outcome State Fault Refusal :=
  alu32X (fun a b => a ||| b) d r s

/-- `AND32_K`: 32-bit and, with an immediate (40_alu32.md R117). -/
def execAnd32K (d : Reg) (imm : Word32) (s : State) : Host.Outcome State Fault Refusal :=
  alu32K (fun a b => a &&& b) d imm s

/-- `AND32_X`: 32-bit and, with a register (40_alu32.md R118). -/
def execAnd32X (d r : Reg) (s : State) : Host.Outcome State Fault Refusal :=
  alu32X (fun a b => a &&& b) d r s

/-- `LSH32_K`: 32-bit shift left, with an immediate (40_alu32.md R119). -/
def execLsh32K (d : Reg) (imm : Word32) (s : State) : Host.Outcome State Fault Refusal :=
  alu32K (fun a b => a <<< shiftAmount32 b) d imm s

/-- `LSH32_X`: 32-bit shift left, with a register (40_alu32.md R120). -/
def execLsh32X (d r : Reg) (s : State) : Host.Outcome State Fault Refusal :=
  alu32X (fun a b => a <<< shiftAmount32 b) d r s

/-- `RSH32_K`: 32-bit shift right, zero fill, with an immediate (40_alu32.md R121). -/
def execRsh32K (d : Reg) (imm : Word32) (s : State) : Host.Outcome State Fault Refusal :=
  alu32K (fun a b => a >>> shiftAmount32 b) d imm s

/-- `RSH32_X`: 32-bit shift right, zero fill, with a register (40_alu32.md R122). -/
def execRsh32X (d r : Reg) (s : State) : Host.Outcome State Fault Refusal :=
  alu32X (fun a b => a >>> shiftAmount32 b) d r s

/-- `NEG32`: 32-bit two's-complement negation (40_alu32.md R123). -/
def execNeg32 (d : Reg) (s : State) : Host.Outcome State Fault Refusal :=
  writeResult s d [d] (zext32 (0#32 - lo32 (dstVal s d)))

/-- `MOD32_K`: 32-bit unsigned remainder, with an immediate (40_alu32.md R124). -/
def execMod32K (d : Reg) (imm : Word32) (s : State) : Host.Outcome State Fault Refusal :=
  alu32K (fun a b => modU a b) d imm s

/-- `MOD32_X`: 32-bit unsigned remainder, with a register (40_alu32.md R125). -/
def execMod32X (d r : Reg) (s : State) : Host.Outcome State Fault Refusal :=
  alu32X (fun a b => modU a b) d r s

/-- `SMOD32_K`: 32-bit signed remainder, with an immediate (40_alu32.md R126). -/
def execSmod32K (d : Reg) (imm : Word32) (s : State) : Host.Outcome State Fault Refusal :=
  alu32K (fun a b => modS a b) d imm s

/-- `SMOD32_X`: 32-bit signed remainder, with a register (40_alu32.md R127). -/
def execSmod32X (d r : Reg) (s : State) : Host.Outcome State Fault Refusal :=
  alu32X (fun a b => modS a b) d r s

/-- `XOR32_K`: 32-bit exclusive or, with an immediate (40_alu32.md R128). -/
def execXor32K (d : Reg) (imm : Word32) (s : State) : Host.Outcome State Fault Refusal :=
  alu32K (fun a b => a ^^^ b) d imm s

/-- `XOR32_X`: 32-bit exclusive or, with a register (40_alu32.md R129). -/
def execXor32X (d r : Reg) (s : State) : Host.Outcome State Fault Refusal :=
  alu32X (fun a b => a ^^^ b) d r s

/-- `MOV32_K`: 32-bit move of an immediate (40_alu32.md R130). -/
def execMov32K (d : Reg) (imm : Word32) (s : State) : Host.Outcome State Fault Refusal :=
  writeResult s d [] (zext32 imm)

/-- `MOV32_X`: 32-bit move of a register (40_alu32.md R131). -/
def execMov32X (d r : Reg) (s : State) : Host.Outcome State Fault Refusal :=
  writeResult s d [r] (zext32 (lo32 (srcVal s r)))

/-- `MOVSX32_8`: move of the low 8 bits of a register, sign-extended to 32 bits and then zero-extended (40_alu32.md
R132). -/
def execMovsx32From8 (d r : Reg) (s : State) : Host.Outcome State Fault Refusal :=
  writeResult s d [r] (zext32 (((srcVal s r).setWidth 8).signExtend 32))

/-- `MOVSX32_16`: move of the low 16 bits of a register, sign-extended to 32 bits and then zero-extended
(40_alu32.md R133). -/
def execMovsx32From16 (d r : Reg) (s : State) : Host.Outcome State Fault Refusal :=
  writeResult s d [r] (zext32 (((srcVal s r).setWidth 16).signExtend 32))

/-- `ARSH32_K`: 32-bit shift right, sign fill, with an immediate (40_alu32.md R134). -/
def execArsh32K (d : Reg) (imm : Word32) (s : State) : Host.Outcome State Fault Refusal :=
  alu32K (fun a b => a.sshiftRight (shiftAmount32 b)) d imm s

/-- `ARSH32_X`: 32-bit shift right, sign fill, with a register (40_alu32.md R135). -/
def execArsh32X (d r : Reg) (s : State) : Host.Outcome State Fault Refusal :=
  alu32X (fun a b => a.sshiftRight (shiftAmount32 b)) d r s

end Sys2Proof.Machine
end

