-- ==== Sys2Proof/Machine/Alu64.lean ====
section
/-! DEFINITION. Class ALU64: 64-bit arithmetic (41_alu64.md R140 to R176). -/

namespace Sys2Proof.Machine

/-- `ADD64_K`: 64-bit add, with an immediate (41_alu64.md R145). -/
def execAdd64K (d : Reg) (imm : Word32) (s : State) : Host.Outcome State Fault Refusal :=
  alu64K (fun a b => a + b) d imm s

/-- `ADD64_X`: 64-bit add, with a register (41_alu64.md R146). -/
def execAdd64X (d r : Reg) (s : State) : Host.Outcome State Fault Refusal :=
  alu64X (fun a b => a + b) d r s

/-- `SUB64_K`: 64-bit subtract, with an immediate (41_alu64.md R147). -/
def execSub64K (d : Reg) (imm : Word32) (s : State) : Host.Outcome State Fault Refusal :=
  alu64K (fun a b => a - b) d imm s

/-- `SUB64_X`: 64-bit subtract, with a register (41_alu64.md R148). -/
def execSub64X (d r : Reg) (s : State) : Host.Outcome State Fault Refusal :=
  alu64X (fun a b => a - b) d r s

/-- `MUL64_K`: 64-bit multiply, with an immediate (41_alu64.md R149). -/
def execMul64K (d : Reg) (imm : Word32) (s : State) : Host.Outcome State Fault Refusal :=
  alu64K (fun a b => a * b) d imm s

/-- `MUL64_X`: 64-bit multiply, with a register (41_alu64.md R150). -/
def execMul64X (d r : Reg) (s : State) : Host.Outcome State Fault Refusal :=
  alu64X (fun a b => a * b) d r s

/-- `DIV64_K`: 64-bit unsigned quotient, with an immediate (41_alu64.md R151). -/
def execDiv64K (d : Reg) (imm : Word32) (s : State) : Host.Outcome State Fault Refusal :=
  alu64K (fun a b => divU a b) d imm s

/-- `DIV64_X`: 64-bit unsigned quotient, with a register (41_alu64.md R152). -/
def execDiv64X (d r : Reg) (s : State) : Host.Outcome State Fault Refusal :=
  alu64X (fun a b => divU a b) d r s

/-- `SDIV64_K`: 64-bit signed quotient, with an immediate (41_alu64.md R153). -/
def execSdiv64K (d : Reg) (imm : Word32) (s : State) : Host.Outcome State Fault Refusal :=
  alu64K (fun a b => divS a b) d imm s

/-- `SDIV64_X`: 64-bit signed quotient, with a register (41_alu64.md R154). -/
def execSdiv64X (d r : Reg) (s : State) : Host.Outcome State Fault Refusal :=
  alu64X (fun a b => divS a b) d r s

/-- `OR64_K`: 64-bit or, with an immediate (41_alu64.md R155). -/
def execOr64K (d : Reg) (imm : Word32) (s : State) : Host.Outcome State Fault Refusal :=
  alu64K (fun a b => a ||| b) d imm s

/-- `OR64_X`: 64-bit or, with a register (41_alu64.md R156). -/
def execOr64X (d r : Reg) (s : State) : Host.Outcome State Fault Refusal :=
  alu64X (fun a b => a ||| b) d r s

/-- `AND64_K`: 64-bit and, with an immediate (41_alu64.md R157). -/
def execAnd64K (d : Reg) (imm : Word32) (s : State) : Host.Outcome State Fault Refusal :=
  alu64K (fun a b => a &&& b) d imm s

/-- `AND64_X`: 64-bit and, with a register (41_alu64.md R158). -/
def execAnd64X (d r : Reg) (s : State) : Host.Outcome State Fault Refusal :=
  alu64X (fun a b => a &&& b) d r s

/-- `LSH64_K`: 64-bit shift left, with an immediate (41_alu64.md R159). -/
def execLsh64K (d : Reg) (imm : Word32) (s : State) : Host.Outcome State Fault Refusal :=
  alu64K (fun a b => a <<< shiftAmount64 b) d imm s

/-- `LSH64_X`: 64-bit shift left, with a register (41_alu64.md R160). -/
def execLsh64X (d r : Reg) (s : State) : Host.Outcome State Fault Refusal :=
  alu64X (fun a b => a <<< shiftAmount64 b) d r s

/-- `RSH64_K`: 64-bit shift right, zero fill, with an immediate (41_alu64.md R161). -/
def execRsh64K (d : Reg) (imm : Word32) (s : State) : Host.Outcome State Fault Refusal :=
  alu64K (fun a b => a >>> shiftAmount64 b) d imm s

/-- `RSH64_X`: 64-bit shift right, zero fill, with a register (41_alu64.md R162). -/
def execRsh64X (d r : Reg) (s : State) : Host.Outcome State Fault Refusal :=
  alu64X (fun a b => a >>> shiftAmount64 b) d r s

/-- `NEG64`: 64-bit two's-complement negation (41_alu64.md R163). -/
def execNeg64 (d : Reg) (s : State) : Host.Outcome State Fault Refusal :=
  writeResult s d [d] (0#64 - dstVal s d)

/-- `MOD64_K`: 64-bit unsigned remainder, with an immediate (41_alu64.md R164). -/
def execMod64K (d : Reg) (imm : Word32) (s : State) : Host.Outcome State Fault Refusal :=
  alu64K (fun a b => modU a b) d imm s

/-- `MOD64_X`: 64-bit unsigned remainder, with a register (41_alu64.md R165). -/
def execMod64X (d r : Reg) (s : State) : Host.Outcome State Fault Refusal :=
  alu64X (fun a b => modU a b) d r s

/-- `SMOD64_K`: 64-bit signed remainder, with an immediate (41_alu64.md R166). -/
def execSmod64K (d : Reg) (imm : Word32) (s : State) : Host.Outcome State Fault Refusal :=
  alu64K (fun a b => modS a b) d imm s

/-- `SMOD64_X`: 64-bit signed remainder, with a register (41_alu64.md R167). -/
def execSmod64X (d r : Reg) (s : State) : Host.Outcome State Fault Refusal :=
  alu64X (fun a b => modS a b) d r s

/-- `XOR64_K`: 64-bit exclusive or, with an immediate (41_alu64.md R168). -/
def execXor64K (d : Reg) (imm : Word32) (s : State) : Host.Outcome State Fault Refusal :=
  alu64K (fun a b => a ^^^ b) d imm s

/-- `XOR64_X`: 64-bit exclusive or, with a register (41_alu64.md R169). -/
def execXor64X (d r : Reg) (s : State) : Host.Outcome State Fault Refusal :=
  alu64X (fun a b => a ^^^ b) d r s

/-- `MOV64_K`: 64-bit move of an immediate (41_alu64.md R170). -/
def execMov64K (d : Reg) (imm : Word32) (s : State) : Host.Outcome State Fault Refusal :=
  writeResult s d [] (immWord imm)

/-- `MOV64_X`: 64-bit move of a register (41_alu64.md R171). -/
def execMov64X (d r : Reg) (s : State) : Host.Outcome State Fault Refusal :=
  writeResult s d [r] (srcVal s r)

/-- `MOVSX64_8`: move of the low 8 bits of a register, sign-extended to 64 bits (41_alu64.md R172). -/
def execMovsx64From8 (d r : Reg) (s : State) : Host.Outcome State Fault Refusal :=
  writeResult s d [r] (((srcVal s r).setWidth 8).signExtend 64)

/-- `MOVSX64_16`: move of the low 16 bits of a register, sign-extended to 64 bits (41_alu64.md R173). -/
def execMovsx64From16 (d r : Reg) (s : State) : Host.Outcome State Fault Refusal :=
  writeResult s d [r] (((srcVal s r).setWidth 16).signExtend 64)

/-- `MOVSX64_32`: move of the low 32 bits of a register, sign-extended to 64 bits (41_alu64.md R174). -/
def execMovsx64From32 (d r : Reg) (s : State) : Host.Outcome State Fault Refusal :=
  writeResult s d [r] (((srcVal s r).setWidth 32).signExtend 64)

/-- `ARSH64_K`: 64-bit shift right, sign fill, with an immediate (41_alu64.md R175). -/
def execArsh64K (d : Reg) (imm : Word32) (s : State) : Host.Outcome State Fault Refusal :=
  alu64K (fun a b => a.sshiftRight (shiftAmount64 b)) d imm s

/-- `ARSH64_X`: 64-bit shift right, sign fill, with a register (41_alu64.md R176). -/
def execArsh64X (d r : Reg) (s : State) : Host.Outcome State Fault Refusal :=
  alu64X (fun a b => a.sshiftRight (shiftAmount64 b)) d r s

end Sys2Proof.Machine
end

