-- ==== Sys2Proof/Machine/Atomic.lean ====
section
/-! DEFINITION. The atomic operations (45_atomic.md R280 to R304). -/

namespace Sys2Proof.Machine

/-- `ATOMIC32_ADD`: 32-bit atomic add (45_atomic.md R284). -/
def execAtomic32Add (d r : Reg) (off : Word16) (s : State) : Host.Outcome State Fault Refusal :=
  atomicPlain 4 (fun old v => zext32 (lo32 old + lo32 v)) d r off s

/-- `ATOMIC32_FETCH_ADD`: 32-bit atomic add, the old value to the source register (45_atomic.md R285). -/
def execAtomic32FetchAdd (d r : Reg) (off : Word16) (s : State) : Host.Outcome State Fault Refusal :=
  atomicFetch 4 (fun old v => zext32 (lo32 old + lo32 v)) d r off s

/-- `ATOMIC32_OR`: 32-bit atomic or (45_atomic.md R286). -/
def execAtomic32Or (d r : Reg) (off : Word16) (s : State) : Host.Outcome State Fault Refusal :=
  atomicPlain 4 (fun old v => zext32 (lo32 old ||| lo32 v)) d r off s

/-- `ATOMIC32_FETCH_OR`: 32-bit atomic or, the old value to the source register (45_atomic.md R287). -/
def execAtomic32FetchOr (d r : Reg) (off : Word16) (s : State) : Host.Outcome State Fault Refusal :=
  atomicFetch 4 (fun old v => zext32 (lo32 old ||| lo32 v)) d r off s

/-- `ATOMIC32_AND`: 32-bit atomic and (45_atomic.md R288). -/
def execAtomic32And (d r : Reg) (off : Word16) (s : State) : Host.Outcome State Fault Refusal :=
  atomicPlain 4 (fun old v => zext32 (lo32 old &&& lo32 v)) d r off s

/-- `ATOMIC32_FETCH_AND`: 32-bit atomic and, the old value to the source register (45_atomic.md R289). -/
def execAtomic32FetchAnd (d r : Reg) (off : Word16) (s : State) : Host.Outcome State Fault Refusal :=
  atomicFetch 4 (fun old v => zext32 (lo32 old &&& lo32 v)) d r off s

/-- `ATOMIC32_XOR`: 32-bit atomic xor (45_atomic.md R290). -/
def execAtomic32Xor (d r : Reg) (off : Word16) (s : State) : Host.Outcome State Fault Refusal :=
  atomicPlain 4 (fun old v => zext32 (lo32 old ^^^ lo32 v)) d r off s

/-- `ATOMIC32_FETCH_XOR`: 32-bit atomic xor, the old value to the source register (45_atomic.md R291). -/
def execAtomic32FetchXor (d r : Reg) (off : Word16) (s : State) : Host.Outcome State Fault Refusal :=
  atomicFetch 4 (fun old v => zext32 (lo32 old ^^^ lo32 v)) d r off s

/-- `ATOMIC32_XCHG`: 32-bit exchange of a register with memory (45_atomic.md R292). -/
def execAtomic32Xchg (d r : Reg) (off : Word16) (s : State) : Host.Outcome State Fault Refusal :=
  atomicFetch 4 (fun _ v => v) d r off s

/-- `ATOMIC32_CMPXCHG`: 32-bit compare and exchange against `x[0]` (45_atomic.md R293). -/
def execAtomic32Cmpxchg (d r : Reg) (off : Word16) (s : State) : Host.Outcome State Fault Refusal :=
  atomicCmpxchg 4 (fun old r0 => lo32 old == lo32 r0) d r off s

/-- `ATOMIC64_ADD`: 64-bit atomic add (45_atomic.md R294). -/
def execAtomic64Add (d r : Reg) (off : Word16) (s : State) : Host.Outcome State Fault Refusal :=
  atomicPlain 8 (fun old v => old + v) d r off s

/-- `ATOMIC64_FETCH_ADD`: 64-bit atomic add, the old value to the source register (45_atomic.md R295). -/
def execAtomic64FetchAdd (d r : Reg) (off : Word16) (s : State) : Host.Outcome State Fault Refusal :=
  atomicFetch 8 (fun old v => old + v) d r off s

/-- `ATOMIC64_OR`: 64-bit atomic or (45_atomic.md R296). -/
def execAtomic64Or (d r : Reg) (off : Word16) (s : State) : Host.Outcome State Fault Refusal :=
  atomicPlain 8 (fun old v => old ||| v) d r off s

/-- `ATOMIC64_FETCH_OR`: 64-bit atomic or, the old value to the source register (45_atomic.md R297). -/
def execAtomic64FetchOr (d r : Reg) (off : Word16) (s : State) : Host.Outcome State Fault Refusal :=
  atomicFetch 8 (fun old v => old ||| v) d r off s

/-- `ATOMIC64_AND`: 64-bit atomic and (45_atomic.md R298). -/
def execAtomic64And (d r : Reg) (off : Word16) (s : State) : Host.Outcome State Fault Refusal :=
  atomicPlain 8 (fun old v => old &&& v) d r off s

/-- `ATOMIC64_FETCH_AND`: 64-bit atomic and, the old value to the source register (45_atomic.md R299). -/
def execAtomic64FetchAnd (d r : Reg) (off : Word16) (s : State) : Host.Outcome State Fault Refusal :=
  atomicFetch 8 (fun old v => old &&& v) d r off s

/-- `ATOMIC64_XOR`: 64-bit atomic xor (45_atomic.md R300). -/
def execAtomic64Xor (d r : Reg) (off : Word16) (s : State) : Host.Outcome State Fault Refusal :=
  atomicPlain 8 (fun old v => old ^^^ v) d r off s

/-- `ATOMIC64_FETCH_XOR`: 64-bit atomic xor, the old value to the source register (45_atomic.md R301). -/
def execAtomic64FetchXor (d r : Reg) (off : Word16) (s : State) : Host.Outcome State Fault Refusal :=
  atomicFetch 8 (fun old v => old ^^^ v) d r off s

/-- `ATOMIC64_XCHG`: 64-bit exchange of a register with memory (45_atomic.md R302). -/
def execAtomic64Xchg (d r : Reg) (off : Word16) (s : State) : Host.Outcome State Fault Refusal :=
  atomicFetch 8 (fun _ v => v) d r off s

/-- `ATOMIC64_CMPXCHG`: 64-bit compare and exchange against `x[0]` (45_atomic.md R303). -/
def execAtomic64Cmpxchg (d r : Reg) (off : Word16) (s : State) : Host.Outcome State Fault Refusal :=
  atomicCmpxchg 8 (fun old r0 => old == r0) d r off s

end Sys2Proof.Machine
end

