-- ==== Sys2Proof/Machine/ByteSwap.lean ====
section
/-! DEFINITION. The byte swaps (42_byteswap.md R180 to R192). -/

namespace Sys2Proof.Machine

/-- `LE16`: the low 16 bits between host order and little-endian, zero-extended (42_byteswap.md R183). -/
def execLe16 (d : Reg) (s : State) : Host.Outcome State Fault Refusal :=
  writeResult s d [d] ((toOrder16 s.cfg.hostEndian .little ((dstVal s d).setWidth 16)).setWidth 64)

/-- `LE32`: the low 32 bits between host order and little-endian, zero-extended (42_byteswap.md R184). -/
def execLe32 (d : Reg) (s : State) : Host.Outcome State Fault Refusal :=
  writeResult s d [d] ((toOrder32 s.cfg.hostEndian .little ((dstVal s d).setWidth 32)).setWidth 64)

/-- `LE64`: the low 64 bits between host order and little-endian (42_byteswap.md R185). -/
def execLe64 (d : Reg) (s : State) : Host.Outcome State Fault Refusal :=
  writeResult s d [d] (toOrder64 s.cfg.hostEndian .little (dstVal s d))

/-- `BE16`: the low 16 bits between host order and big-endian, zero-extended (42_byteswap.md R186). -/
def execBe16 (d : Reg) (s : State) : Host.Outcome State Fault Refusal :=
  writeResult s d [d] ((toOrder16 s.cfg.hostEndian .big ((dstVal s d).setWidth 16)).setWidth 64)

/-- `BE32`: the low 32 bits between host order and big-endian, zero-extended (42_byteswap.md R187). -/
def execBe32 (d : Reg) (s : State) : Host.Outcome State Fault Refusal :=
  writeResult s d [d] ((toOrder32 s.cfg.hostEndian .big ((dstVal s d).setWidth 32)).setWidth 64)

/-- `BE64`: the low 64 bits between host order and big-endian (42_byteswap.md R188). -/
def execBe64 (d : Reg) (s : State) : Host.Outcome State Fault Refusal :=
  writeResult s d [d] (toOrder64 s.cfg.hostEndian .big (dstVal s d))

/-- `BSWAP16`: the bytes of the low 16 bits reversed, zero-extended (42_byteswap.md R189). -/
def execBswap16 (d : Reg) (s : State) : Host.Outcome State Fault Refusal :=
  writeResult s d [d] ((bswap16 ((dstVal s d).setWidth 16)).setWidth 64)

/-- `BSWAP32`: the bytes of the low 32 bits reversed, zero-extended (42_byteswap.md R190). -/
def execBswap32 (d : Reg) (s : State) : Host.Outcome State Fault Refusal :=
  writeResult s d [d] ((bswap32 ((dstVal s d).setWidth 32)).setWidth 64)

/-- `BSWAP64`: the bytes of the low 64 bits reversed (42_byteswap.md R191). -/
def execBswap64 (d : Reg) (s : State) : Host.Outcome State Fault Refusal :=
  writeResult s d [d] (bswap64 (dstVal s d))

end Sys2Proof.Machine
end

