-- ==== Sys2Proof/Machine/Imm64.lean ====
section
/-! DEFINITION. The 64-bit immediate instructions (46_imm64.md R306 to R317). -/

namespace Sys2Proof.Machine

/-- `LD_IMM64`: load a 64-bit constant (46_imm64.md R310). -/
def execLdImm64 (d : Reg) (imm next : Word32) (s : State) : Host.Outcome State Fault Refusal :=
  settle s (guardWrite s d (.ok (advance (writeReg s d (next ++ imm)) 2)))

/-- `LD_MAP_FD`: load the address of the map with a file descriptor (46_imm64.md R311). -/
def execLdMapFd (d : Reg) (imm : Word32) (s : State) : Host.Outcome State Fault Refusal :=
  writeObject s d .mapFd imm (lookup s.cfg.mapsByFd imm)

/-- `LD_MAP_VAL_FD`: load an address inside the value of the map with a file descriptor (46_imm64.md R312). -/
def execLdMapValFd (d : Reg) (imm next : Word32) (s : State) : Host.Outcome State Fault Refusal :=
  writeObject s d .mapFd imm
    (((lookup s.cfg.mapsByFd imm).bind (lookup s.cfg.mapVals)).map fun a => a + zext32 next)

/-- `LD_VAR_ADDR`: load the address of a platform variable (46_imm64.md R313). -/
def execLdVarAddr (d : Reg) (imm : Word32) (s : State) : Host.Outcome State Fault Refusal :=
  writeObject s d .variableId imm (lookup s.cfg.vars imm)

/-- `LD_CODE_ADDR`: load the code address of a slot of the program (46_imm64.md R314). -/
def execLdCodeAddr (d : Reg) (imm : Word32) (s : State) : Host.Outcome State Fault Refusal :=
  writeObject s d .code imm (codeAddr s (s.pc + 1 + imm.toInt))

/-- `LD_MAP_IDX`: load the address of the map with an index (46_imm64.md R315). -/
def execLdMapIdx (d : Reg) (imm : Word32) (s : State) : Host.Outcome State Fault Refusal :=
  writeObject s d .mapIndex imm (lookup s.cfg.mapsByIdx imm)

/-- `LD_MAP_VAL_IDX`: load an address inside the value of the map with an index (46_imm64.md R316). -/
def execLdMapValIdx (d : Reg) (imm next : Word32) (s : State) : Host.Outcome State Fault Refusal :=
  writeObject s d .mapIndex imm
    (((lookup s.cfg.mapsByIdx imm).bind (lookup s.cfg.mapVals)).map fun a => a + zext32 next)

end Sys2Proof.Machine
end

