-- ==== Sys2Proof/Machine/Jump.lean ====
section
/-! DEFINITION. Unconditional jumps, calls and exit (43_jump.md R200 to R257). -/

namespace Sys2Proof.Machine

/-- `JA`: jump by the signed 16-bit `offset` (43_jump.md R203). -/
def execJa (off : Word16) (s : State) : Host.Outcome State Fault Refusal :=
  settle s (.ok (jumpBy s off.toInt))

/-- `JA32`: jump by the signed 32-bit `imm` (43_jump.md R204). -/
def execJa32 (imm : Word32) (s : State) : Host.Outcome State Fault Refusal :=
  settle s (.ok (jumpBy s imm.toInt))

/-- `CALL_HELPER`: call a helper by static ID (43_jump.md R252). -/
def execCallHelper (imm : Word32) (s : State) : Host.Outcome State Fault Refusal :=
  callHelper .static imm s

/-- `CALL_LOCAL`: call a program-local function (43_jump.md R253). -/
def execCallLocal (imm : Word32) (s : State) : Host.Outcome State Fault Refusal :=
  callLocal imm.toInt s

/-- `CALL_BTF`: call a helper by BTF ID (43_jump.md R254). -/
def execCallBtf (imm : Word32) (s : State) : Host.Outcome State Fault Refusal :=
  callHelper .btf imm s

/-- `EXIT`: return, or end the program (43_jump.md R256). -/
def execExit (s : State) : Host.Outcome State Fault Refusal :=
  exitOrReturn s

end Sys2Proof.Machine
end

