-- ==== Sys2Proof/Machine/JumpCond.lean ====
section
/-! DEFINITION. The conditional jumps (43_jump_cond.md R205 to R248). -/

namespace Sys2Proof.Machine

/-- `JEQ64_K`: jump when the 64-bit comparison with an immediate holds (43_jump_cond.md R205). -/
def execJeq64K (d : Reg) (imm : Word32) (off : Word16) (s : State) : Host.Outcome State Fault Refusal :=
  jump64K condEq d imm off s

/-- `JEQ64_X`: jump when the 64-bit comparison with a register holds (43_jump_cond.md R206). -/
def execJeq64X (d r : Reg) (off : Word16) (s : State) : Host.Outcome State Fault Refusal :=
  jump64X condEq d r off s

/-- `JEQ32_K`: jump when the 32-bit comparison with an immediate holds (43_jump_cond.md R207). -/
def execJeq32K (d : Reg) (imm : Word32) (off : Word16) (s : State) : Host.Outcome State Fault Refusal :=
  jump32K condEq d imm off s

/-- `JEQ32_X`: jump when the 32-bit comparison with a register holds (43_jump_cond.md R208). -/
def execJeq32X (d r : Reg) (off : Word16) (s : State) : Host.Outcome State Fault Refusal :=
  jump32X condEq d r off s

/-- `JGT64_K`: jump when the 64-bit comparison with an immediate holds (43_jump_cond.md R209). -/
def execJgt64K (d : Reg) (imm : Word32) (off : Word16) (s : State) : Host.Outcome State Fault Refusal :=
  jump64K condGt d imm off s

/-- `JGT64_X`: jump when the 64-bit comparison with a register holds (43_jump_cond.md R210). -/
def execJgt64X (d r : Reg) (off : Word16) (s : State) : Host.Outcome State Fault Refusal :=
  jump64X condGt d r off s

/-- `JGT32_K`: jump when the 32-bit comparison with an immediate holds (43_jump_cond.md R211). -/
def execJgt32K (d : Reg) (imm : Word32) (off : Word16) (s : State) : Host.Outcome State Fault Refusal :=
  jump32K condGt d imm off s

/-- `JGT32_X`: jump when the 32-bit comparison with a register holds (43_jump_cond.md R212). -/
def execJgt32X (d r : Reg) (off : Word16) (s : State) : Host.Outcome State Fault Refusal :=
  jump32X condGt d r off s

/-- `JGE64_K`: jump when the 64-bit comparison with an immediate holds (43_jump_cond.md R213). -/
def execJge64K (d : Reg) (imm : Word32) (off : Word16) (s : State) : Host.Outcome State Fault Refusal :=
  jump64K condGe d imm off s

/-- `JGE64_X`: jump when the 64-bit comparison with a register holds (43_jump_cond.md R214). -/
def execJge64X (d r : Reg) (off : Word16) (s : State) : Host.Outcome State Fault Refusal :=
  jump64X condGe d r off s

/-- `JGE32_K`: jump when the 32-bit comparison with an immediate holds (43_jump_cond.md R215). -/
def execJge32K (d : Reg) (imm : Word32) (off : Word16) (s : State) : Host.Outcome State Fault Refusal :=
  jump32K condGe d imm off s

/-- `JGE32_X`: jump when the 32-bit comparison with a register holds (43_jump_cond.md R216). -/
def execJge32X (d r : Reg) (off : Word16) (s : State) : Host.Outcome State Fault Refusal :=
  jump32X condGe d r off s

/-- `JSET64_K`: jump when the 64-bit comparison with an immediate holds (43_jump_cond.md R217). -/
def execJset64K (d : Reg) (imm : Word32) (off : Word16) (s : State) : Host.Outcome State Fault Refusal :=
  jump64K condSet d imm off s

/-- `JSET64_X`: jump when the 64-bit comparison with a register holds (43_jump_cond.md R218). -/
def execJset64X (d r : Reg) (off : Word16) (s : State) : Host.Outcome State Fault Refusal :=
  jump64X condSet d r off s

/-- `JSET32_K`: jump when the 32-bit comparison with an immediate holds (43_jump_cond.md R219). -/
def execJset32K (d : Reg) (imm : Word32) (off : Word16) (s : State) : Host.Outcome State Fault Refusal :=
  jump32K condSet d imm off s

/-- `JSET32_X`: jump when the 32-bit comparison with a register holds (43_jump_cond.md R220). -/
def execJset32X (d r : Reg) (off : Word16) (s : State) : Host.Outcome State Fault Refusal :=
  jump32X condSet d r off s

/-- `JNE64_K`: jump when the 64-bit comparison with an immediate holds (43_jump_cond.md R221). -/
def execJne64K (d : Reg) (imm : Word32) (off : Word16) (s : State) : Host.Outcome State Fault Refusal :=
  jump64K condNe d imm off s

/-- `JNE64_X`: jump when the 64-bit comparison with a register holds (43_jump_cond.md R222). -/
def execJne64X (d r : Reg) (off : Word16) (s : State) : Host.Outcome State Fault Refusal :=
  jump64X condNe d r off s

/-- `JNE32_K`: jump when the 32-bit comparison with an immediate holds (43_jump_cond.md R223). -/
def execJne32K (d : Reg) (imm : Word32) (off : Word16) (s : State) : Host.Outcome State Fault Refusal :=
  jump32K condNe d imm off s

/-- `JNE32_X`: jump when the 32-bit comparison with a register holds (43_jump_cond.md R224). -/
def execJne32X (d r : Reg) (off : Word16) (s : State) : Host.Outcome State Fault Refusal :=
  jump32X condNe d r off s

/-- `JSGT64_K`: jump when the 64-bit comparison with an immediate holds (43_jump_cond.md R225). -/
def execJsgt64K (d : Reg) (imm : Word32) (off : Word16) (s : State) : Host.Outcome State Fault Refusal :=
  jump64K condSgt d imm off s

/-- `JSGT64_X`: jump when the 64-bit comparison with a register holds (43_jump_cond.md R226). -/
def execJsgt64X (d r : Reg) (off : Word16) (s : State) : Host.Outcome State Fault Refusal :=
  jump64X condSgt d r off s

/-- `JSGT32_K`: jump when the 32-bit comparison with an immediate holds (43_jump_cond.md R227). -/
def execJsgt32K (d : Reg) (imm : Word32) (off : Word16) (s : State) : Host.Outcome State Fault Refusal :=
  jump32K condSgt d imm off s

/-- `JSGT32_X`: jump when the 32-bit comparison with a register holds (43_jump_cond.md R228). -/
def execJsgt32X (d r : Reg) (off : Word16) (s : State) : Host.Outcome State Fault Refusal :=
  jump32X condSgt d r off s

/-- `JSGE64_K`: jump when the 64-bit comparison with an immediate holds (43_jump_cond.md R229). -/
def execJsge64K (d : Reg) (imm : Word32) (off : Word16) (s : State) : Host.Outcome State Fault Refusal :=
  jump64K condSge d imm off s

/-- `JSGE64_X`: jump when the 64-bit comparison with a register holds (43_jump_cond.md R230). -/
def execJsge64X (d r : Reg) (off : Word16) (s : State) : Host.Outcome State Fault Refusal :=
  jump64X condSge d r off s

/-- `JSGE32_K`: jump when the 32-bit comparison with an immediate holds (43_jump_cond.md R231). -/
def execJsge32K (d : Reg) (imm : Word32) (off : Word16) (s : State) : Host.Outcome State Fault Refusal :=
  jump32K condSge d imm off s

/-- `JSGE32_X`: jump when the 32-bit comparison with a register holds (43_jump_cond.md R232). -/
def execJsge32X (d r : Reg) (off : Word16) (s : State) : Host.Outcome State Fault Refusal :=
  jump32X condSge d r off s

/-- `JLT64_K`: jump when the 64-bit comparison with an immediate holds (43_jump_cond.md R233). -/
def execJlt64K (d : Reg) (imm : Word32) (off : Word16) (s : State) : Host.Outcome State Fault Refusal :=
  jump64K condLt d imm off s

/-- `JLT64_X`: jump when the 64-bit comparison with a register holds (43_jump_cond.md R234). -/
def execJlt64X (d r : Reg) (off : Word16) (s : State) : Host.Outcome State Fault Refusal :=
  jump64X condLt d r off s

/-- `JLT32_K`: jump when the 32-bit comparison with an immediate holds (43_jump_cond.md R235). -/
def execJlt32K (d : Reg) (imm : Word32) (off : Word16) (s : State) : Host.Outcome State Fault Refusal :=
  jump32K condLt d imm off s

/-- `JLT32_X`: jump when the 32-bit comparison with a register holds (43_jump_cond.md R236). -/
def execJlt32X (d r : Reg) (off : Word16) (s : State) : Host.Outcome State Fault Refusal :=
  jump32X condLt d r off s

/-- `JLE64_K`: jump when the 64-bit comparison with an immediate holds (43_jump_cond.md R237). -/
def execJle64K (d : Reg) (imm : Word32) (off : Word16) (s : State) : Host.Outcome State Fault Refusal :=
  jump64K condLe d imm off s

/-- `JLE64_X`: jump when the 64-bit comparison with a register holds (43_jump_cond.md R238). -/
def execJle64X (d r : Reg) (off : Word16) (s : State) : Host.Outcome State Fault Refusal :=
  jump64X condLe d r off s

/-- `JLE32_K`: jump when the 32-bit comparison with an immediate holds (43_jump_cond.md R239). -/
def execJle32K (d : Reg) (imm : Word32) (off : Word16) (s : State) : Host.Outcome State Fault Refusal :=
  jump32K condLe d imm off s

/-- `JLE32_X`: jump when the 32-bit comparison with a register holds (43_jump_cond.md R240). -/
def execJle32X (d r : Reg) (off : Word16) (s : State) : Host.Outcome State Fault Refusal :=
  jump32X condLe d r off s

/-- `JSLT64_K`: jump when the 64-bit comparison with an immediate holds (43_jump_cond.md R241). -/
def execJslt64K (d : Reg) (imm : Word32) (off : Word16) (s : State) : Host.Outcome State Fault Refusal :=
  jump64K condSlt d imm off s

/-- `JSLT64_X`: jump when the 64-bit comparison with a register holds (43_jump_cond.md R242). -/
def execJslt64X (d r : Reg) (off : Word16) (s : State) : Host.Outcome State Fault Refusal :=
  jump64X condSlt d r off s

/-- `JSLT32_K`: jump when the 32-bit comparison with an immediate holds (43_jump_cond.md R243). -/
def execJslt32K (d : Reg) (imm : Word32) (off : Word16) (s : State) : Host.Outcome State Fault Refusal :=
  jump32K condSlt d imm off s

/-- `JSLT32_X`: jump when the 32-bit comparison with a register holds (43_jump_cond.md R244). -/
def execJslt32X (d r : Reg) (off : Word16) (s : State) : Host.Outcome State Fault Refusal :=
  jump32X condSlt d r off s

/-- `JSLE64_K`: jump when the 64-bit comparison with an immediate holds (43_jump_cond.md R245). -/
def execJsle64K (d : Reg) (imm : Word32) (off : Word16) (s : State) : Host.Outcome State Fault Refusal :=
  jump64K condSle d imm off s

/-- `JSLE64_X`: jump when the 64-bit comparison with a register holds (43_jump_cond.md R246). -/
def execJsle64X (d r : Reg) (off : Word16) (s : State) : Host.Outcome State Fault Refusal :=
  jump64X condSle d r off s

/-- `JSLE32_K`: jump when the 32-bit comparison with an immediate holds (43_jump_cond.md R247). -/
def execJsle32K (d : Reg) (imm : Word32) (off : Word16) (s : State) : Host.Outcome State Fault Refusal :=
  jump32K condSle d imm off s

/-- `JSLE32_X`: jump when the 32-bit comparison with a register holds (43_jump_cond.md R248). -/
def execJsle32X (d r : Reg) (off : Word16) (s : State) : Host.Outcome State Fault Refusal :=
  jump32X condSle d r off s

end Sys2Proof.Machine
end

