-- ==== Sys2Proof/Machine/LoadStore.lean ====
section
/-! DEFINITION. Loads and stores (44_load_store.md R260 to R278). -/

namespace Sys2Proof.Machine

/-- `LDX_B`: load 1 byte, zero-extended (44_load_store.md R263). -/
def execLdxB (d r : Reg) (off : Word16) (s : State) : Host.Outcome State Fault Refusal :=
  load 1 (fun v => v) d r off s

/-- `LDX_H`: load 2 bytes, zero-extended (44_load_store.md R264). -/
def execLdxH (d r : Reg) (off : Word16) (s : State) : Host.Outcome State Fault Refusal :=
  load 2 (fun v => v) d r off s

/-- `LDX_W`: load 4 bytes, zero-extended (44_load_store.md R265). -/
def execLdxW (d r : Reg) (off : Word16) (s : State) : Host.Outcome State Fault Refusal :=
  load 4 (fun v => v) d r off s

/-- `LDX_DW`: load 8 bytes, zero-extended (44_load_store.md R266). -/
def execLdxDw (d r : Reg) (off : Word16) (s : State) : Host.Outcome State Fault Refusal :=
  load 8 (fun v => v) d r off s

/-- `ST_B`: store 1 byte of the immediate (44_load_store.md R267). -/
def execStB (d : Reg) (imm : Word32) (off : Word16) (s : State) : Host.Outcome State Fault Refusal :=
  storeK 1 d imm off s

/-- `ST_H`: store 2 bytes of the immediate (44_load_store.md R268). -/
def execStH (d : Reg) (imm : Word32) (off : Word16) (s : State) : Host.Outcome State Fault Refusal :=
  storeK 2 d imm off s

/-- `ST_W`: store 4 bytes of the immediate (44_load_store.md R269). -/
def execStW (d : Reg) (imm : Word32) (off : Word16) (s : State) : Host.Outcome State Fault Refusal :=
  storeK 4 d imm off s

/-- `ST_DW`: store 8 bytes of the immediate (44_load_store.md R270). -/
def execStDw (d : Reg) (imm : Word32) (off : Word16) (s : State) : Host.Outcome State Fault Refusal :=
  storeK 8 d imm off s

/-- `STX_B`: store 1 byte of a register (44_load_store.md R271). -/
def execStxB (d r : Reg) (off : Word16) (s : State) : Host.Outcome State Fault Refusal :=
  storeX 1 d r off s

/-- `STX_H`: store 2 bytes of a register (44_load_store.md R272). -/
def execStxH (d r : Reg) (off : Word16) (s : State) : Host.Outcome State Fault Refusal :=
  storeX 2 d r off s

/-- `STX_W`: store 4 bytes of a register (44_load_store.md R273). -/
def execStxW (d r : Reg) (off : Word16) (s : State) : Host.Outcome State Fault Refusal :=
  storeX 4 d r off s

/-- `STX_DW`: store 8 bytes of a register (44_load_store.md R274). -/
def execStxDw (d r : Reg) (off : Word16) (s : State) : Host.Outcome State Fault Refusal :=
  storeX 8 d r off s

/-- `LDXS_B`: load 1 byte, sign-extended (44_load_store.md R275). -/
def execLdxsB (d r : Reg) (off : Word16) (s : State) : Host.Outcome State Fault Refusal :=
  load 1 (signExtendFrom 8) d r off s

/-- `LDXS_H`: load 2 bytes, sign-extended (44_load_store.md R276). -/
def execLdxsH (d r : Reg) (off : Word16) (s : State) : Host.Outcome State Fault Refusal :=
  load 2 (signExtendFrom 16) d r off s

/-- `LDXS_W`: load 4 bytes, sign-extended (44_load_store.md R277). -/
def execLdxsW (d r : Reg) (off : Word16) (s : State) : Host.Outcome State Fault Refusal :=
  load 4 (signExtendFrom 32) d r off s

end Sys2Proof.Machine
end

