-- ==== Sys2Proof/Machine/Packet.lean ====
section
/-! DEFINITION. The legacy packet instructions (47_legacy_packet.md R330 to R338). -/

namespace Sys2Proof.Machine

/-- `LD_ABS_W`: legacy absolute packet load, which raises Unmodelled; log 19 (47_legacy_packet.md R332). -/
def execLdAbsW (_imm : Word32) (s : State) : Host.Outcome State Fault Refusal :=
  settle s (.error (.unmodelled s.pc))

/-- `LD_ABS_H`: legacy absolute packet load, which raises Unmodelled; log 19 (47_legacy_packet.md R333). -/
def execLdAbsH (_imm : Word32) (s : State) : Host.Outcome State Fault Refusal :=
  settle s (.error (.unmodelled s.pc))

/-- `LD_ABS_B`: legacy absolute packet load, which raises Unmodelled; log 19 (47_legacy_packet.md R334). -/
def execLdAbsB (_imm : Word32) (s : State) : Host.Outcome State Fault Refusal :=
  settle s (.error (.unmodelled s.pc))

/-- `LD_IND_W`: legacy indirect packet load, which raises Unmodelled; log 19 (47_legacy_packet.md R335). -/
def execLdIndW (_r : Reg) (_imm : Word32) (s : State) : Host.Outcome State Fault Refusal :=
  settle s (.error (.unmodelled s.pc))

/-- `LD_IND_H`: legacy indirect packet load, which raises Unmodelled; log 19 (47_legacy_packet.md R336). -/
def execLdIndH (_r : Reg) (_imm : Word32) (s : State) : Host.Outcome State Fault Refusal :=
  settle s (.error (.unmodelled s.pc))

/-- `LD_IND_B`: legacy indirect packet load, which raises Unmodelled; log 19 (47_legacy_packet.md R337). -/
def execLdIndB (_r : Reg) (_imm : Word32) (s : State) : Host.Outcome State Fault Refusal :=
  settle s (.error (.unmodelled s.pc))

end Sys2Proof.Machine
end

