-- ==== Sys2Proof/Machine/Dispatch.lean ====
section
/-! DEFINITION. The meaning of every instruction, one arm per constructor. -/

namespace Sys2Proof.Machine

def exec (i : Instr) (s : State) : Host.Outcome State Fault Refusal :=
  match i with
  | .add32K d imm => Sys2Proof.Machine.execAdd32K d imm s
  | .add32X d r => Sys2Proof.Machine.execAdd32X d r s
  | .sub32K d imm => Sys2Proof.Machine.execSub32K d imm s
  | .sub32X d r => Sys2Proof.Machine.execSub32X d r s
  | .mul32K d imm => Sys2Proof.Machine.execMul32K d imm s
  | .mul32X d r => Sys2Proof.Machine.execMul32X d r s
  | .div32K d imm => Sys2Proof.Machine.execDiv32K d imm s
  | .div32X d r => Sys2Proof.Machine.execDiv32X d r s
  | .sdiv32K d imm => Sys2Proof.Machine.execSdiv32K d imm s
  | .sdiv32X d r => Sys2Proof.Machine.execSdiv32X d r s
  | .or32K d imm => Sys2Proof.Machine.execOr32K d imm s
  | .or32X d r => Sys2Proof.Machine.execOr32X d r s
  | .and32K d imm => Sys2Proof.Machine.execAnd32K d imm s
  | .and32X d r => Sys2Proof.Machine.execAnd32X d r s
  | .lsh32K d imm => Sys2Proof.Machine.execLsh32K d imm s
  | .lsh32X d r => Sys2Proof.Machine.execLsh32X d r s
  | .rsh32K d imm => Sys2Proof.Machine.execRsh32K d imm s
  | .rsh32X d r => Sys2Proof.Machine.execRsh32X d r s
  | .neg32 d => Sys2Proof.Machine.execNeg32 d s
  | .mod32K d imm => Sys2Proof.Machine.execMod32K d imm s
  | .mod32X d r => Sys2Proof.Machine.execMod32X d r s
  | .smod32K d imm => Sys2Proof.Machine.execSmod32K d imm s
  | .smod32X d r => Sys2Proof.Machine.execSmod32X d r s
  | .xor32K d imm => Sys2Proof.Machine.execXor32K d imm s
  | .xor32X d r => Sys2Proof.Machine.execXor32X d r s
  | .mov32K d imm => Sys2Proof.Machine.execMov32K d imm s
  | .mov32X d r => Sys2Proof.Machine.execMov32X d r s
  | .movsx32From8 d r => Sys2Proof.Machine.execMovsx32From8 d r s
  | .movsx32From16 d r => Sys2Proof.Machine.execMovsx32From16 d r s
  | .arsh32K d imm => Sys2Proof.Machine.execArsh32K d imm s
  | .arsh32X d r => Sys2Proof.Machine.execArsh32X d r s
  | .add64K d imm => Sys2Proof.Machine.execAdd64K d imm s
  | .add64X d r => Sys2Proof.Machine.execAdd64X d r s
  | .sub64K d imm => Sys2Proof.Machine.execSub64K d imm s
  | .sub64X d r => Sys2Proof.Machine.execSub64X d r s
  | .mul64K d imm => Sys2Proof.Machine.execMul64K d imm s
  | .mul64X d r => Sys2Proof.Machine.execMul64X d r s
  | .div64K d imm => Sys2Proof.Machine.execDiv64K d imm s
  | .div64X d r => Sys2Proof.Machine.execDiv64X d r s
  | .sdiv64K d imm => Sys2Proof.Machine.execSdiv64K d imm s
  | .sdiv64X d r => Sys2Proof.Machine.execSdiv64X d r s
  | .or64K d imm => Sys2Proof.Machine.execOr64K d imm s
  | .or64X d r => Sys2Proof.Machine.execOr64X d r s
  | .and64K d imm => Sys2Proof.Machine.execAnd64K d imm s
  | .and64X d r => Sys2Proof.Machine.execAnd64X d r s
  | .lsh64K d imm => Sys2Proof.Machine.execLsh64K d imm s
  | .lsh64X d r => Sys2Proof.Machine.execLsh64X d r s
  | .rsh64K d imm => Sys2Proof.Machine.execRsh64K d imm s
  | .rsh64X d r => Sys2Proof.Machine.execRsh64X d r s
  | .neg64 d => Sys2Proof.Machine.execNeg64 d s
  | .mod64K d imm => Sys2Proof.Machine.execMod64K d imm s
  | .mod64X d r => Sys2Proof.Machine.execMod64X d r s
  | .smod64K d imm => Sys2Proof.Machine.execSmod64K d imm s
  | .smod64X d r => Sys2Proof.Machine.execSmod64X d r s
  | .xor64K d imm => Sys2Proof.Machine.execXor64K d imm s
  | .xor64X d r => Sys2Proof.Machine.execXor64X d r s
  | .mov64K d imm => Sys2Proof.Machine.execMov64K d imm s
  | .mov64X d r => Sys2Proof.Machine.execMov64X d r s
  | .movsx64From8 d r => Sys2Proof.Machine.execMovsx64From8 d r s
  | .movsx64From16 d r => Sys2Proof.Machine.execMovsx64From16 d r s
  | .movsx64From32 d r => Sys2Proof.Machine.execMovsx64From32 d r s
  | .arsh64K d imm => Sys2Proof.Machine.execArsh64K d imm s
  | .arsh64X d r => Sys2Proof.Machine.execArsh64X d r s
  | .le16 d => Sys2Proof.Machine.execLe16 d s
  | .le32 d => Sys2Proof.Machine.execLe32 d s
  | .le64 d => Sys2Proof.Machine.execLe64 d s
  | .be16 d => Sys2Proof.Machine.execBe16 d s
  | .be32 d => Sys2Proof.Machine.execBe32 d s
  | .be64 d => Sys2Proof.Machine.execBe64 d s
  | .bswap16 d => Sys2Proof.Machine.execBswap16 d s
  | .bswap32 d => Sys2Proof.Machine.execBswap32 d s
  | .bswap64 d => Sys2Proof.Machine.execBswap64 d s
  | .ja off => Sys2Proof.Machine.execJa off s
  | .ja32 imm => Sys2Proof.Machine.execJa32 imm s
  | .jeq64K d imm off => Sys2Proof.Machine.execJeq64K d imm off s
  | .jeq64X d r off => Sys2Proof.Machine.execJeq64X d r off s
  | .jeq32K d imm off => Sys2Proof.Machine.execJeq32K d imm off s
  | .jeq32X d r off => Sys2Proof.Machine.execJeq32X d r off s
  | .jgt64K d imm off => Sys2Proof.Machine.execJgt64K d imm off s
  | .jgt64X d r off => Sys2Proof.Machine.execJgt64X d r off s
  | .jgt32K d imm off => Sys2Proof.Machine.execJgt32K d imm off s
  | .jgt32X d r off => Sys2Proof.Machine.execJgt32X d r off s
  | .jge64K d imm off => Sys2Proof.Machine.execJge64K d imm off s
  | .jge64X d r off => Sys2Proof.Machine.execJge64X d r off s
  | .jge32K d imm off => Sys2Proof.Machine.execJge32K d imm off s
  | .jge32X d r off => Sys2Proof.Machine.execJge32X d r off s
  | .jset64K d imm off => Sys2Proof.Machine.execJset64K d imm off s
  | .jset64X d r off => Sys2Proof.Machine.execJset64X d r off s
  | .jset32K d imm off => Sys2Proof.Machine.execJset32K d imm off s
  | .jset32X d r off => Sys2Proof.Machine.execJset32X d r off s
  | .jne64K d imm off => Sys2Proof.Machine.execJne64K d imm off s
  | .jne64X d r off => Sys2Proof.Machine.execJne64X d r off s
  | .jne32K d imm off => Sys2Proof.Machine.execJne32K d imm off s
  | .jne32X d r off => Sys2Proof.Machine.execJne32X d r off s
  | .jsgt64K d imm off => Sys2Proof.Machine.execJsgt64K d imm off s
  | .jsgt64X d r off => Sys2Proof.Machine.execJsgt64X d r off s
  | .jsgt32K d imm off => Sys2Proof.Machine.execJsgt32K d imm off s
  | .jsgt32X d r off => Sys2Proof.Machine.execJsgt32X d r off s
  | .jsge64K d imm off => Sys2Proof.Machine.execJsge64K d imm off s
  | .jsge64X d r off => Sys2Proof.Machine.execJsge64X d r off s
  | .jsge32K d imm off => Sys2Proof.Machine.execJsge32K d imm off s
  | .jsge32X d r off => Sys2Proof.Machine.execJsge32X d r off s
  | .jlt64K d imm off => Sys2Proof.Machine.execJlt64K d imm off s
  | .jlt64X d r off => Sys2Proof.Machine.execJlt64X d r off s
  | .jlt32K d imm off => Sys2Proof.Machine.execJlt32K d imm off s
  | .jlt32X d r off => Sys2Proof.Machine.execJlt32X d r off s
  | .jle64K d imm off => Sys2Proof.Machine.execJle64K d imm off s
  | .jle64X d r off => Sys2Proof.Machine.execJle64X d r off s
  | .jle32K d imm off => Sys2Proof.Machine.execJle32K d imm off s
  | .jle32X d r off => Sys2Proof.Machine.execJle32X d r off s
  | .jslt64K d imm off => Sys2Proof.Machine.execJslt64K d imm off s
  | .jslt64X d r off => Sys2Proof.Machine.execJslt64X d r off s
  | .jslt32K d imm off => Sys2Proof.Machine.execJslt32K d imm off s
  | .jslt32X d r off => Sys2Proof.Machine.execJslt32X d r off s
  | .jsle64K d imm off => Sys2Proof.Machine.execJsle64K d imm off s
  | .jsle64X d r off => Sys2Proof.Machine.execJsle64X d r off s
  | .jsle32K d imm off => Sys2Proof.Machine.execJsle32K d imm off s
  | .jsle32X d r off => Sys2Proof.Machine.execJsle32X d r off s
  | .callHelper imm => Sys2Proof.Machine.execCallHelper imm s
  | .callLocal imm => Sys2Proof.Machine.execCallLocal imm s
  | .callBtf imm => Sys2Proof.Machine.execCallBtf imm s
  | .exit => Sys2Proof.Machine.execExit s
  | .ldxB d r off => Sys2Proof.Machine.execLdxB d r off s
  | .ldxH d r off => Sys2Proof.Machine.execLdxH d r off s
  | .ldxW d r off => Sys2Proof.Machine.execLdxW d r off s
  | .ldxDw d r off => Sys2Proof.Machine.execLdxDw d r off s
  | .stB d imm off => Sys2Proof.Machine.execStB d imm off s
  | .stH d imm off => Sys2Proof.Machine.execStH d imm off s
  | .stW d imm off => Sys2Proof.Machine.execStW d imm off s
  | .stDw d imm off => Sys2Proof.Machine.execStDw d imm off s
  | .stxB d r off => Sys2Proof.Machine.execStxB d r off s
  | .stxH d r off => Sys2Proof.Machine.execStxH d r off s
  | .stxW d r off => Sys2Proof.Machine.execStxW d r off s
  | .stxDw d r off => Sys2Proof.Machine.execStxDw d r off s
  | .ldxsB d r off => Sys2Proof.Machine.execLdxsB d r off s
  | .ldxsH d r off => Sys2Proof.Machine.execLdxsH d r off s
  | .ldxsW d r off => Sys2Proof.Machine.execLdxsW d r off s
  | .atomic32Add d r off => Sys2Proof.Machine.execAtomic32Add d r off s
  | .atomic32FetchAdd d r off => Sys2Proof.Machine.execAtomic32FetchAdd d r off s
  | .atomic32Or d r off => Sys2Proof.Machine.execAtomic32Or d r off s
  | .atomic32FetchOr d r off => Sys2Proof.Machine.execAtomic32FetchOr d r off s
  | .atomic32And d r off => Sys2Proof.Machine.execAtomic32And d r off s
  | .atomic32FetchAnd d r off => Sys2Proof.Machine.execAtomic32FetchAnd d r off s
  | .atomic32Xor d r off => Sys2Proof.Machine.execAtomic32Xor d r off s
  | .atomic32FetchXor d r off => Sys2Proof.Machine.execAtomic32FetchXor d r off s
  | .atomic32Xchg d r off => Sys2Proof.Machine.execAtomic32Xchg d r off s
  | .atomic32Cmpxchg d r off => Sys2Proof.Machine.execAtomic32Cmpxchg d r off s
  | .atomic64Add d r off => Sys2Proof.Machine.execAtomic64Add d r off s
  | .atomic64FetchAdd d r off => Sys2Proof.Machine.execAtomic64FetchAdd d r off s
  | .atomic64Or d r off => Sys2Proof.Machine.execAtomic64Or d r off s
  | .atomic64FetchOr d r off => Sys2Proof.Machine.execAtomic64FetchOr d r off s
  | .atomic64And d r off => Sys2Proof.Machine.execAtomic64And d r off s
  | .atomic64FetchAnd d r off => Sys2Proof.Machine.execAtomic64FetchAnd d r off s
  | .atomic64Xor d r off => Sys2Proof.Machine.execAtomic64Xor d r off s
  | .atomic64FetchXor d r off => Sys2Proof.Machine.execAtomic64FetchXor d r off s
  | .atomic64Xchg d r off => Sys2Proof.Machine.execAtomic64Xchg d r off s
  | .atomic64Cmpxchg d r off => Sys2Proof.Machine.execAtomic64Cmpxchg d r off s
  | .ldImm64 d imm next => Sys2Proof.Machine.execLdImm64 d imm next s
  | .ldMapFd d imm => Sys2Proof.Machine.execLdMapFd d imm s
  | .ldMapValFd d imm next => Sys2Proof.Machine.execLdMapValFd d imm next s
  | .ldVarAddr d imm => Sys2Proof.Machine.execLdVarAddr d imm s
  | .ldCodeAddr d imm => Sys2Proof.Machine.execLdCodeAddr d imm s
  | .ldMapIdx d imm => Sys2Proof.Machine.execLdMapIdx d imm s
  | .ldMapValIdx d imm next => Sys2Proof.Machine.execLdMapValIdx d imm next s
  | .ldAbsW imm => Sys2Proof.Machine.execLdAbsW imm s
  | .ldAbsH imm => Sys2Proof.Machine.execLdAbsH imm s
  | .ldAbsB imm => Sys2Proof.Machine.execLdAbsB imm s
  | .ldIndW r imm => Sys2Proof.Machine.execLdIndW r imm s
  | .ldIndH r imm => Sys2Proof.Machine.execLdIndH r imm s
  | .ldIndB r imm => Sys2Proof.Machine.execLdIndB r imm s

end Sys2Proof.Machine
end

