-- ==== Sys2Proof/WellFormed.lean ====
section
/-! DEFINITION. Well-formedness: what the specification asks of a configuration and of an instruction under it.
Each check is named and decidable. -/

namespace Sys2Proof

/-- Every byte of the region has an address: the region does not wrap past 2^64 - 1 (20_memory.md R46). -/
def Region.fits (r : Region) : Bool := decide (r.base.toNat + r.size ≤ 2 ^ 64)

/-- `GROUPS` must contain base32 (00_scope.md R3, R7). -/
def Platform.hasBase32 (p : Platform) : Bool := p.groups.contains .base32

/-- Every region fits in the address space (20_memory.md R46). -/
def Platform.regionsFit (p : Platform) : Bool := p.regions.all Region.fits

/-- No argument of a platform function is bound twice: each table is a partial function (46_imm64.md R307). -/
def Platform.tablesFunctional (p : Platform) : Bool :=
  decide ((p.mapsByFd.map Prod.fst).Nodup ∧ (p.mapsByIdx.map Prod.fst).Nodup ∧ (p.mapVals.map Prod.fst).Nodup ∧
    (p.vars.map Prod.fst).Nodup ∧ (p.codeAddrs.map Prod.fst).Nodup)

/-- A configuration the specification allows. -/
def Platform.wf (p : Platform) : Bool := p.hasBase32 && p.regionsFit && p.tablesFunctional

/-- An instruction the implementation supports: its group is in `GROUPS` (30_encoding.md R85, R86 step 4). The
other checks of an encoding (register numbers, selectors, unused fields) hold of every term of `Instr`. -/
def Instr.wf (groups : List Group) (i : Instr) : Bool := supports groups i.group

end Sys2Proof
end

