-- ==== Sys2Proof/Machine/Fetch.lean ====
section
/-! DEFINITION. Fetch: instruction starts, the decode procedure at `pc`, and placing an instruction where the next
fetch finds it (10_state.md R27, R28; 30_encoding.md R86). -/

namespace Sys2Proof.Machine

/-- Whether slot `n` of the program is an instruction start, by the linear scan from slot 0 (10_state.md R28).
`second` says that the slot at the front is the second slot of a wide instruction. -/
def startsAt (second : Bool) (prog : List Slot) (n : Nat) : Bool :=
  match prog, n with
  | [], _ => false
  | _ :: _, 0 => !second
  | w :: rest, n + 1 => startsAt (!second && isWide w) rest n

/-- A pc is valid when it is an instruction start inside the program (10_state.md R27). -/
def validPc (prog : List Slot) (pc : Int) : Bool := decide (0 ≤ pc) && startsAt false prog pc.toNat

/-- Fetch and decode at `pc` (30_encoding.md R86; first and second in priority, 60_exceptions.md R342). -/
def fetch (s : State) : Except RunFault Instr :=
  if validPc s.prog s.pc then
    match s.prog[s.pc.toNat]? with
    | none => .error (.badPc s.pc)
    | some w =>
      match decodeSlots s.cfg.hostEndian s.cfg.strictUnused w s.prog[s.pc.toNat + 1]? with
      | .error _ => .error (.illegalInstruction s.pc)
      | .ok i => if i.wf s.cfg.groups then .ok i else .error (.illegalInstruction s.pc)
  else .error (.badPc s.pc)

/-- One more step taken (log 15). -/
def bump (s : State) : State := { s with tick := s.tick + 1 }

/-- The same outcome, one more step taken. -/
def bumpOutcome (o : Host.Outcome State Fault Refusal) : Host.Outcome State Fault Refusal :=
  match o with
  | .next t => .next (bump t)
  | .fault f => .fault f
  | .refused r => .refused r

/-- Slots 0 to `n - 1` of the program, missing ones zero, the last one zero where it would make slot `n` the
second slot of a wide instruction. -/
def slotsBefore (prog : List Slot) (n : Nat) : List Slot :=
  let before := prog.take n ++ List.replicate (n - prog.length) 0#64
  if startsAt false (before ++ [0#64]) n then before else before.dropLast ++ [0#64]

/-- The groups with the group of an instruction added where it is not supported. -/
def supporting (gs : List Group) (i : Option Instr) : List Group :=
  match i with
  | none => gs
  | some i => if i.wf gs then gs else gs ++ [i.group]

/-- The state with the instruction of two canonical words (the second used by a wide instruction alone) standing
at `pc`, so that the next step runs it: the program text from slot `pc` on is those two slots, in host layout; a
negative pc becomes 0; the instance is running; the instruction's group is supported (log 17). -/
def placeInstr (s : State) (w w2 : Word) : State :=
  { s with
    prog := slotsBefore s.prog s.pc.toNat ++
      [(Fields.ofCanonical w).toSlot s.cfg.hostEndian, (Fields.ofCanonical w2).toSlot s.cfg.hostEndian]
    pc := s.pc.toNat
    status := .running
    cfg := { s.cfg with
      groups := supporting s.cfg.groups
        (decodeFields s.cfg.strictUnused (Fields.ofCanonical w) (some (Fields.ofCanonical w2))).toOption } }

end Sys2Proof.Machine
end

