-- ==== Sys2Proof/Machine/Step.lean ====
section
/-! DEFINITION. One step of the machine (60_exceptions.md R355). -/

namespace Sys2Proof.Machine

/-- One step (60_exceptions.md R355): from Running, fetch and decode at `pc`, which may raise a fault, and execute
the instruction's rule; from Exited or Faulted there is no step. One step is one instruction (70_reset_and_hazards.md
R369) and advances the model's `tick` (log 15). -/
def step (s : State) : Host.Outcome State Fault Refusal :=
  match s.status with
  | .running =>
    match fetch s with
    | .error f => bumpOutcome (.next (raise s f))
    | .ok i => bumpOutcome (exec i s)
  | .exited _ => .fault .stopped
  | .faulted _ => .fault .stopped

/-- The state whose next step fetches and runs the instruction of the given bits, numbered as opcode_table.json
numbers them (log 17). -/
def State.withFetchWord (s : State) (nbits w : Nat) : State :=
  placeInstr s (BitVec.ofNat 64 (w % 2 ^ nbits)) (BitVec.ofNat 64 (w % 2 ^ nbits / 2 ^ 64))

end Sys2Proof.Machine
end

