-- ==== Sys2Proof/Machine/Footprint.lean ====
section
/-! DEFINITION. The footprint of an instruction, as its rule states it: the registers it reads, the register that
receives its result, and the bytes it accesses. The machine does not use these; claims do. -/

namespace Sys2Proof.Machine

/-- The registers an instruction reads as operands, implicit ones included (10_state.md R25 and each instruction's
rule). A helper call reads its arguments as cells, and EXIT reads `x[0]` only when the call stack is empty
(43_jump.md R252, R256), so neither is listed with a register. -/
def sources (i : Instr) : List Reg :=
  match i with
  | .add32K d _ => [d]
  | .add32X d r => [d, r]
  | .sub32K d _ => [d]
  | .sub32X d r => [d, r]
  | .mul32K d _ => [d]
  | .mul32X d r => [d, r]
  | .div32K d _ => [d]
  | .div32X d r => [d, r]
  | .sdiv32K d _ => [d]
  | .sdiv32X d r => [d, r]
  | .or32K d _ => [d]
  | .or32X d r => [d, r]
  | .and32K d _ => [d]
  | .and32X d r => [d, r]
  | .lsh32K d _ => [d]
  | .lsh32X d r => [d, r]
  | .rsh32K d _ => [d]
  | .rsh32X d r => [d, r]
  | .neg32 d => [d]
  | .mod32K d _ => [d]
  | .mod32X d r => [d, r]
  | .smod32K d _ => [d]
  | .smod32X d r => [d, r]
  | .xor32K d _ => [d]
  | .xor32X d r => [d, r]
  | .mov32K _ _ => []
  | .mov32X _ r => [r]
  | .movsx32From8 _ r => [r]
  | .movsx32From16 _ r => [r]
  | .arsh32K d _ => [d]
  | .arsh32X d r => [d, r]
  | .add64K d _ => [d]
  | .add64X d r => [d, r]
  | .sub64K d _ => [d]
  | .sub64X d r => [d, r]
  | .mul64K d _ => [d]
  | .mul64X d r => [d, r]
  | .div64K d _ => [d]
  | .div64X d r => [d, r]
  | .sdiv64K d _ => [d]
  | .sdiv64X d r => [d, r]
  | .or64K d _ => [d]
  | .or64X d r => [d, r]
  | .and64K d _ => [d]
  | .and64X d r => [d, r]
  | .lsh64K d _ => [d]
  | .lsh64X d r => [d, r]
  | .rsh64K d _ => [d]
  | .rsh64X d r => [d, r]
  | .neg64 d => [d]
  | .mod64K d _ => [d]
  | .mod64X d r => [d, r]
  | .smod64K d _ => [d]
  | .smod64X d r => [d, r]
  | .xor64K d _ => [d]
  | .xor64X d r => [d, r]
  | .mov64K _ _ => []
  | .mov64X _ r => [r]
  | .movsx64From8 _ r => [r]
  | .movsx64From16 _ r => [r]
  | .movsx64From32 _ r => [r]
  | .arsh64K d _ => [d]
  | .arsh64X d r => [d, r]
  | .le16 d => [d]
  | .le32 d => [d]
  | .le64 d => [d]
  | .be16 d => [d]
  | .be32 d => [d]
  | .be64 d => [d]
  | .bswap16 d => [d]
  | .bswap32 d => [d]
  | .bswap64 d => [d]
  | .ja _ => []
  | .ja32 _ => []
  | .jeq64K d _ _ => [d]
  | .jeq64X d r _ => [d, r]
  | .jeq32K d _ _ => [d]
  | .jeq32X d r _ => [d, r]
  | .jgt64K d _ _ => [d]
  | .jgt64X d r _ => [d, r]
  | .jgt32K d _ _ => [d]
  | .jgt32X d r _ => [d, r]
  | .jge64K d _ _ => [d]
  | .jge64X d r _ => [d, r]
  | .jge32K d _ _ => [d]
  | .jge32X d r _ => [d, r]
  | .jset64K d _ _ => [d]
  | .jset64X d r _ => [d, r]
  | .jset32K d _ _ => [d]
  | .jset32X d r _ => [d, r]
  | .jne64K d _ _ => [d]
  | .jne64X d r _ => [d, r]
  | .jne32K d _ _ => [d]
  | .jne32X d r _ => [d, r]
  | .jsgt64K d _ _ => [d]
  | .jsgt64X d r _ => [d, r]
  | .jsgt32K d _ _ => [d]
  | .jsgt32X d r _ => [d, r]
  | .jsge64K d _ _ => [d]
  | .jsge64X d r _ => [d, r]
  | .jsge32K d _ _ => [d]
  | .jsge32X d r _ => [d, r]
  | .jlt64K d _ _ => [d]
  | .jlt64X d r _ => [d, r]
  | .jlt32K d _ _ => [d]
  | .jlt32X d r _ => [d, r]
  | .jle64K d _ _ => [d]
  | .jle64X d r _ => [d, r]
  | .jle32K d _ _ => [d]
  | .jle32X d r _ => [d, r]
  | .jslt64K d _ _ => [d]
  | .jslt64X d r _ => [d, r]
  | .jslt32K d _ _ => [d]
  | .jslt32X d r _ => [d, r]
  | .jsle64K d _ _ => [d]
  | .jsle64X d r _ => [d, r]
  | .jsle32K d _ _ => [d]
  | .jsle32X d r _ => [d, r]
  | .callHelper _ => []
  | .callLocal _ => []
  | .callBtf _ => []
  | .exit => []
  | .ldxB _ r _ => [r]
  | .ldxH _ r _ => [r]
  | .ldxW _ r _ => [r]
  | .ldxDw _ r _ => [r]
  | .stB d _ _ => [d]
  | .stH d _ _ => [d]
  | .stW d _ _ => [d]
  | .stDw d _ _ => [d]
  | .stxB d r _ => [d, r]
  | .stxH d r _ => [d, r]
  | .stxW d r _ => [d, r]
  | .stxDw d r _ => [d, r]
  | .ldxsB _ r _ => [r]
  | .ldxsH _ r _ => [r]
  | .ldxsW _ r _ => [r]
  | .atomic32Add d r _ => [d, r]
  | .atomic32FetchAdd d r _ => [d, r]
  | .atomic32Or d r _ => [d, r]
  | .atomic32FetchOr d r _ => [d, r]
  | .atomic32And d r _ => [d, r]
  | .atomic32FetchAnd d r _ => [d, r]
  | .atomic32Xor d r _ => [d, r]
  | .atomic32FetchXor d r _ => [d, r]
  | .atomic32Xchg d r _ => [d, r]
  | .atomic32Cmpxchg d r _ => [d, r, .r0]
  | .atomic64Add d r _ => [d, r]
  | .atomic64FetchAdd d r _ => [d, r]
  | .atomic64Or d r _ => [d, r]
  | .atomic64FetchOr d r _ => [d, r]
  | .atomic64And d r _ => [d, r]
  | .atomic64FetchAnd d r _ => [d, r]
  | .atomic64Xor d r _ => [d, r]
  | .atomic64FetchXor d r _ => [d, r]
  | .atomic64Xchg d r _ => [d, r]
  | .atomic64Cmpxchg d r _ => [d, r, .r0]
  | .ldImm64 _ _ _ => []
  | .ldMapFd _ _ => []
  | .ldMapValFd _ _ _ => []
  | .ldVarAddr _ _ => []
  | .ldCodeAddr _ _ => []
  | .ldMapIdx _ _ => []
  | .ldMapValIdx _ _ _ => []
  | .ldAbsW _ => []
  | .ldAbsH _ => []
  | .ldAbsB _ => []
  | .ldIndW _ _ => []
  | .ldIndH _ _ => []
  | .ldIndB _ _ => []

/-- The register that receives an instruction's result (10_state.md R23, R25). Calls and EXIT are not listed: what
they do to the registers is 43_jump.md R255. -/
def target (i : Instr) : Option Reg :=
  match i with
  | .add32K d _ => some d
  | .add32X d _ => some d
  | .sub32K d _ => some d
  | .sub32X d _ => some d
  | .mul32K d _ => some d
  | .mul32X d _ => some d
  | .div32K d _ => some d
  | .div32X d _ => some d
  | .sdiv32K d _ => some d
  | .sdiv32X d _ => some d
  | .or32K d _ => some d
  | .or32X d _ => some d
  | .and32K d _ => some d
  | .and32X d _ => some d
  | .lsh32K d _ => some d
  | .lsh32X d _ => some d
  | .rsh32K d _ => some d
  | .rsh32X d _ => some d
  | .neg32 d => some d
  | .mod32K d _ => some d
  | .mod32X d _ => some d
  | .smod32K d _ => some d
  | .smod32X d _ => some d
  | .xor32K d _ => some d
  | .xor32X d _ => some d
  | .mov32K d _ => some d
  | .mov32X d _ => some d
  | .movsx32From8 d _ => some d
  | .movsx32From16 d _ => some d
  | .arsh32K d _ => some d
  | .arsh32X d _ => some d
  | .add64K d _ => some d
  | .add64X d _ => some d
  | .sub64K d _ => some d
  | .sub64X d _ => some d
  | .mul64K d _ => some d
  | .mul64X d _ => some d
  | .div64K d _ => some d
  | .div64X d _ => some d
  | .sdiv64K d _ => some d
  | .sdiv64X d _ => some d
  | .or64K d _ => some d
  | .or64X d _ => some d
  | .and64K d _ => some d
  | .and64X d _ => some d
  | .lsh64K d _ => some d
  | .lsh64X d _ => some d
  | .rsh64K d _ => some d
  | .rsh64X d _ => some d
  | .neg64 d => some d
  | .mod64K d _ => some d
  | .mod64X d _ => some d
  | .smod64K d _ => some d
  | .smod64X d _ => some d
  | .xor64K d _ => some d
  | .xor64X d _ => some d
  | .mov64K d _ => some d
  | .mov64X d _ => some d
  | .movsx64From8 d _ => some d
  | .movsx64From16 d _ => some d
  | .movsx64From32 d _ => some d
  | .arsh64K d _ => some d
  | .arsh64X d _ => some d
  | .le16 d => some d
  | .le32 d => some d
  | .le64 d => some d
  | .be16 d => some d
  | .be32 d => some d
  | .be64 d => some d
  | .bswap16 d => some d
  | .bswap32 d => some d
  | .bswap64 d => some d
  | .ja _ => none
  | .ja32 _ => none
  | .jeq64K _ _ _ => none
  | .jeq64X _ _ _ => none
  | .jeq32K _ _ _ => none
  | .jeq32X _ _ _ => none
  | .jgt64K _ _ _ => none
  | .jgt64X _ _ _ => none
  | .jgt32K _ _ _ => none
  | .jgt32X _ _ _ => none
  | .jge64K _ _ _ => none
  | .jge64X _ _ _ => none
  | .jge32K _ _ _ => none
  | .jge32X _ _ _ => none
  | .jset64K _ _ _ => none
  | .jset64X _ _ _ => none
  | .jset32K _ _ _ => none
  | .jset32X _ _ _ => none
  | .jne64K _ _ _ => none
  | .jne64X _ _ _ => none
  | .jne32K _ _ _ => none
  | .jne32X _ _ _ => none
  | .jsgt64K _ _ _ => none
  | .jsgt64X _ _ _ => none
  | .jsgt32K _ _ _ => none
  | .jsgt32X _ _ _ => none
  | .jsge64K _ _ _ => none
  | .jsge64X _ _ _ => none
  | .jsge32K _ _ _ => none
  | .jsge32X _ _ _ => none
  | .jlt64K _ _ _ => none
  | .jlt64X _ _ _ => none
  | .jlt32K _ _ _ => none
  | .jlt32X _ _ _ => none
  | .jle64K _ _ _ => none
  | .jle64X _ _ _ => none
  | .jle32K _ _ _ => none
  | .jle32X _ _ _ => none
  | .jslt64K _ _ _ => none
  | .jslt64X _ _ _ => none
  | .jslt32K _ _ _ => none
  | .jslt32X _ _ _ => none
  | .jsle64K _ _ _ => none
  | .jsle64X _ _ _ => none
  | .jsle32K _ _ _ => none
  | .jsle32X _ _ _ => none
  | .callHelper _ => none
  | .callLocal _ => none
  | .callBtf _ => none
  | .exit => none
  | .ldxB d _ _ => some d
  | .ldxH d _ _ => some d
  | .ldxW d _ _ => some d
  | .ldxDw d _ _ => some d
  | .stB _ _ _ => none
  | .stH _ _ _ => none
  | .stW _ _ _ => none
  | .stDw _ _ _ => none
  | .stxB _ _ _ => none
  | .stxH _ _ _ => none
  | .stxW _ _ _ => none
  | .stxDw _ _ _ => none
  | .ldxsB d _ _ => some d
  | .ldxsH d _ _ => some d
  | .ldxsW d _ _ => some d
  | .atomic32Add _ _ _ => none
  | .atomic32FetchAdd _ r _ => some r
  | .atomic32Or _ _ _ => none
  | .atomic32FetchOr _ r _ => some r
  | .atomic32And _ _ _ => none
  | .atomic32FetchAnd _ r _ => some r
  | .atomic32Xor _ _ _ => none
  | .atomic32FetchXor _ r _ => some r
  | .atomic32Xchg _ r _ => some r
  | .atomic32Cmpxchg _ _ _ => some .r0
  | .atomic64Add _ _ _ => none
  | .atomic64FetchAdd _ r _ => some r
  | .atomic64Or _ _ _ => none
  | .atomic64FetchOr _ r _ => some r
  | .atomic64And _ _ _ => none
  | .atomic64FetchAnd _ r _ => some r
  | .atomic64Xor _ _ _ => none
  | .atomic64FetchXor _ r _ => some r
  | .atomic64Xchg _ r _ => some r
  | .atomic64Cmpxchg _ _ _ => some .r0
  | .ldImm64 d _ _ => some d
  | .ldMapFd d _ => some d
  | .ldMapValFd d _ _ => some d
  | .ldVarAddr d _ => some d
  | .ldCodeAddr d _ => some d
  | .ldMapIdx d _ => some d
  | .ldMapValIdx d _ _ => some d
  | .ldAbsW _ => none
  | .ldAbsH _ => none
  | .ldAbsB _ => none
  | .ldIndW _ _ => none
  | .ldIndH _ _ => none
  | .ldIndB _ _ => none

/-- The bytes of data memory an instruction accesses: the kind of access, the effective address in the state, and the
width (20_memory.md R40, R42, R48). -/
def access (s : State) (i : Instr) : Option (AccessKind × Word × Nat) :=
  match i with
  | .add32K _ _ => none
  | .add32X _ _ => none
  | .sub32K _ _ => none
  | .sub32X _ _ => none
  | .mul32K _ _ => none
  | .mul32X _ _ => none
  | .div32K _ _ => none
  | .div32X _ _ => none
  | .sdiv32K _ _ => none
  | .sdiv32X _ _ => none
  | .or32K _ _ => none
  | .or32X _ _ => none
  | .and32K _ _ => none
  | .and32X _ _ => none
  | .lsh32K _ _ => none
  | .lsh32X _ _ => none
  | .rsh32K _ _ => none
  | .rsh32X _ _ => none
  | .neg32 _ => none
  | .mod32K _ _ => none
  | .mod32X _ _ => none
  | .smod32K _ _ => none
  | .smod32X _ _ => none
  | .xor32K _ _ => none
  | .xor32X _ _ => none
  | .mov32K _ _ => none
  | .mov32X _ _ => none
  | .movsx32From8 _ _ => none
  | .movsx32From16 _ _ => none
  | .arsh32K _ _ => none
  | .arsh32X _ _ => none
  | .add64K _ _ => none
  | .add64X _ _ => none
  | .sub64K _ _ => none
  | .sub64X _ _ => none
  | .mul64K _ _ => none
  | .mul64X _ _ => none
  | .div64K _ _ => none
  | .div64X _ _ => none
  | .sdiv64K _ _ => none
  | .sdiv64X _ _ => none
  | .or64K _ _ => none
  | .or64X _ _ => none
  | .and64K _ _ => none
  | .and64X _ _ => none
  | .lsh64K _ _ => none
  | .lsh64X _ _ => none
  | .rsh64K _ _ => none
  | .rsh64X _ _ => none
  | .neg64 _ => none
  | .mod64K _ _ => none
  | .mod64X _ _ => none
  | .smod64K _ _ => none
  | .smod64X _ _ => none
  | .xor64K _ _ => none
  | .xor64X _ _ => none
  | .mov64K _ _ => none
  | .mov64X _ _ => none
  | .movsx64From8 _ _ => none
  | .movsx64From16 _ _ => none
  | .movsx64From32 _ _ => none
  | .arsh64K _ _ => none
  | .arsh64X _ _ => none
  | .le16 _ => none
  | .le32 _ => none
  | .le64 _ => none
  | .be16 _ => none
  | .be32 _ => none
  | .be64 _ => none
  | .bswap16 _ => none
  | .bswap32 _ => none
  | .bswap64 _ => none
  | .ja _ => none
  | .ja32 _ => none
  | .jeq64K _ _ _ => none
  | .jeq64X _ _ _ => none
  | .jeq32K _ _ _ => none
  | .jeq32X _ _ _ => none
  | .jgt64K _ _ _ => none
  | .jgt64X _ _ _ => none
  | .jgt32K _ _ _ => none
  | .jgt32X _ _ _ => none
  | .jge64K _ _ _ => none
  | .jge64X _ _ _ => none
  | .jge32K _ _ _ => none
  | .jge32X _ _ _ => none
  | .jset64K _ _ _ => none
  | .jset64X _ _ _ => none
  | .jset32K _ _ _ => none
  | .jset32X _ _ _ => none
  | .jne64K _ _ _ => none
  | .jne64X _ _ _ => none
  | .jne32K _ _ _ => none
  | .jne32X _ _ _ => none
  | .jsgt64K _ _ _ => none
  | .jsgt64X _ _ _ => none
  | .jsgt32K _ _ _ => none
  | .jsgt32X _ _ _ => none
  | .jsge64K _ _ _ => none
  | .jsge64X _ _ _ => none
  | .jsge32K _ _ _ => none
  | .jsge32X _ _ _ => none
  | .jlt64K _ _ _ => none
  | .jlt64X _ _ _ => none
  | .jlt32K _ _ _ => none
  | .jlt32X _ _ _ => none
  | .jle64K _ _ _ => none
  | .jle64X _ _ _ => none
  | .jle32K _ _ _ => none
  | .jle32X _ _ _ => none
  | .jslt64K _ _ _ => none
  | .jslt64X _ _ _ => none
  | .jslt32K _ _ _ => none
  | .jslt32X _ _ _ => none
  | .jsle64K _ _ _ => none
  | .jsle64X _ _ _ => none
  | .jsle32K _ _ _ => none
  | .jsle32X _ _ _ => none
  | .callHelper _ => none
  | .callLocal _ => none
  | .callBtf _ => none
  | .exit => none
  | .ldxB _ r off => some (.read, loadAddr s r off, 1)
  | .ldxH _ r off => some (.read, loadAddr s r off, 2)
  | .ldxW _ r off => some (.read, loadAddr s r off, 4)
  | .ldxDw _ r off => some (.read, loadAddr s r off, 8)
  | .stB d _ off => some (.write, storeAddr s d off, 1)
  | .stH d _ off => some (.write, storeAddr s d off, 2)
  | .stW d _ off => some (.write, storeAddr s d off, 4)
  | .stDw d _ off => some (.write, storeAddr s d off, 8)
  | .stxB d _ off => some (.write, storeAddr s d off, 1)
  | .stxH d _ off => some (.write, storeAddr s d off, 2)
  | .stxW d _ off => some (.write, storeAddr s d off, 4)
  | .stxDw d _ off => some (.write, storeAddr s d off, 8)
  | .ldxsB _ r off => some (.read, loadAddr s r off, 1)
  | .ldxsH _ r off => some (.read, loadAddr s r off, 2)
  | .ldxsW _ r off => some (.read, loadAddr s r off, 4)
  | .atomic32Add d _ off => some (.atomic, storeAddr s d off, 4)
  | .atomic32FetchAdd d _ off => some (.atomic, storeAddr s d off, 4)
  | .atomic32Or d _ off => some (.atomic, storeAddr s d off, 4)
  | .atomic32FetchOr d _ off => some (.atomic, storeAddr s d off, 4)
  | .atomic32And d _ off => some (.atomic, storeAddr s d off, 4)
  | .atomic32FetchAnd d _ off => some (.atomic, storeAddr s d off, 4)
  | .atomic32Xor d _ off => some (.atomic, storeAddr s d off, 4)
  | .atomic32FetchXor d _ off => some (.atomic, storeAddr s d off, 4)
  | .atomic32Xchg d _ off => some (.atomic, storeAddr s d off, 4)
  | .atomic32Cmpxchg d _ off => some (.atomic, storeAddr s d off, 4)
  | .atomic64Add d _ off => some (.atomic, storeAddr s d off, 8)
  | .atomic64FetchAdd d _ off => some (.atomic, storeAddr s d off, 8)
  | .atomic64Or d _ off => some (.atomic, storeAddr s d off, 8)
  | .atomic64FetchOr d _ off => some (.atomic, storeAddr s d off, 8)
  | .atomic64And d _ off => some (.atomic, storeAddr s d off, 8)
  | .atomic64FetchAnd d _ off => some (.atomic, storeAddr s d off, 8)
  | .atomic64Xor d _ off => some (.atomic, storeAddr s d off, 8)
  | .atomic64FetchXor d _ off => some (.atomic, storeAddr s d off, 8)
  | .atomic64Xchg d _ off => some (.atomic, storeAddr s d off, 8)
  | .atomic64Cmpxchg d _ off => some (.atomic, storeAddr s d off, 8)
  | .ldImm64 _ _ _ => none
  | .ldMapFd _ _ => none
  | .ldMapValFd _ _ _ => none
  | .ldVarAddr _ _ => none
  | .ldCodeAddr _ _ => none
  | .ldMapIdx _ _ => none
  | .ldMapValIdx _ _ _ => none
  | .ldAbsW _ => none
  | .ldAbsH _ => none
  | .ldAbsB _ => none
  | .ldIndW _ _ => none
  | .ldIndH _ _ => none
  | .ldIndB _ _ => none

/-- The instruction is a helper call, whose effect is the platform's (43_jump.md R252, R254). -/
def callsHelper (i : Instr) : Bool :=
  match i with
  | .add32K _ _ => false
  | .add32X _ _ => false
  | .sub32K _ _ => false
  | .sub32X _ _ => false
  | .mul32K _ _ => false
  | .mul32X _ _ => false
  | .div32K _ _ => false
  | .div32X _ _ => false
  | .sdiv32K _ _ => false
  | .sdiv32X _ _ => false
  | .or32K _ _ => false
  | .or32X _ _ => false
  | .and32K _ _ => false
  | .and32X _ _ => false
  | .lsh32K _ _ => false
  | .lsh32X _ _ => false
  | .rsh32K _ _ => false
  | .rsh32X _ _ => false
  | .neg32 _ => false
  | .mod32K _ _ => false
  | .mod32X _ _ => false
  | .smod32K _ _ => false
  | .smod32X _ _ => false
  | .xor32K _ _ => false
  | .xor32X _ _ => false
  | .mov32K _ _ => false
  | .mov32X _ _ => false
  | .movsx32From8 _ _ => false
  | .movsx32From16 _ _ => false
  | .arsh32K _ _ => false
  | .arsh32X _ _ => false
  | .add64K _ _ => false
  | .add64X _ _ => false
  | .sub64K _ _ => false
  | .sub64X _ _ => false
  | .mul64K _ _ => false
  | .mul64X _ _ => false
  | .div64K _ _ => false
  | .div64X _ _ => false
  | .sdiv64K _ _ => false
  | .sdiv64X _ _ => false
  | .or64K _ _ => false
  | .or64X _ _ => false
  | .and64K _ _ => false
  | .and64X _ _ => false
  | .lsh64K _ _ => false
  | .lsh64X _ _ => false
  | .rsh64K _ _ => false
  | .rsh64X _ _ => false
  | .neg64 _ => false
  | .mod64K _ _ => false
  | .mod64X _ _ => false
  | .smod64K _ _ => false
  | .smod64X _ _ => false
  | .xor64K _ _ => false
  | .xor64X _ _ => false
  | .mov64K _ _ => false
  | .mov64X _ _ => false
  | .movsx64From8 _ _ => false
  | .movsx64From16 _ _ => false
  | .movsx64From32 _ _ => false
  | .arsh64K _ _ => false
  | .arsh64X _ _ => false
  | .le16 _ => false
  | .le32 _ => false
  | .le64 _ => false
  | .be16 _ => false
  | .be32 _ => false
  | .be64 _ => false
  | .bswap16 _ => false
  | .bswap32 _ => false
  | .bswap64 _ => false
  | .ja _ => false
  | .ja32 _ => false
  | .jeq64K _ _ _ => false
  | .jeq64X _ _ _ => false
  | .jeq32K _ _ _ => false
  | .jeq32X _ _ _ => false
  | .jgt64K _ _ _ => false
  | .jgt64X _ _ _ => false
  | .jgt32K _ _ _ => false
  | .jgt32X _ _ _ => false
  | .jge64K _ _ _ => false
  | .jge64X _ _ _ => false
  | .jge32K _ _ _ => false
  | .jge32X _ _ _ => false
  | .jset64K _ _ _ => false
  | .jset64X _ _ _ => false
  | .jset32K _ _ _ => false
  | .jset32X _ _ _ => false
  | .jne64K _ _ _ => false
  | .jne64X _ _ _ => false
  | .jne32K _ _ _ => false
  | .jne32X _ _ _ => false
  | .jsgt64K _ _ _ => false
  | .jsgt64X _ _ _ => false
  | .jsgt32K _ _ _ => false
  | .jsgt32X _ _ _ => false
  | .jsge64K _ _ _ => false
  | .jsge64X _ _ _ => false
  | .jsge32K _ _ _ => false
  | .jsge32X _ _ _ => false
  | .jlt64K _ _ _ => false
  | .jlt64X _ _ _ => false
  | .jlt32K _ _ _ => false
  | .jlt32X _ _ _ => false
  | .jle64K _ _ _ => false
  | .jle64X _ _ _ => false
  | .jle32K _ _ _ => false
  | .jle32X _ _ _ => false
  | .jslt64K _ _ _ => false
  | .jslt64X _ _ _ => false
  | .jslt32K _ _ _ => false
  | .jslt32X _ _ _ => false
  | .jsle64K _ _ _ => false
  | .jsle64X _ _ _ => false
  | .jsle32K _ _ _ => false
  | .jsle32X _ _ _ => false
  | .callHelper _ => true
  | .callLocal _ => false
  | .callBtf _ => true
  | .exit => false
  | .ldxB _ _ _ => false
  | .ldxH _ _ _ => false
  | .ldxW _ _ _ => false
  | .ldxDw _ _ _ => false
  | .stB _ _ _ => false
  | .stH _ _ _ => false
  | .stW _ _ _ => false
  | .stDw _ _ _ => false
  | .stxB _ _ _ => false
  | .stxH _ _ _ => false
  | .stxW _ _ _ => false
  | .stxDw _ _ _ => false
  | .ldxsB _ _ _ => false
  | .ldxsH _ _ _ => false
  | .ldxsW _ _ _ => false
  | .atomic32Add _ _ _ => false
  | .atomic32FetchAdd _ _ _ => false
  | .atomic32Or _ _ _ => false
  | .atomic32FetchOr _ _ _ => false
  | .atomic32And _ _ _ => false
  | .atomic32FetchAnd _ _ _ => false
  | .atomic32Xor _ _ _ => false
  | .atomic32FetchXor _ _ _ => false
  | .atomic32Xchg _ _ _ => false
  | .atomic32Cmpxchg _ _ _ => false
  | .atomic64Add _ _ _ => false
  | .atomic64FetchAdd _ _ _ => false
  | .atomic64Or _ _ _ => false
  | .atomic64FetchOr _ _ _ => false
  | .atomic64And _ _ _ => false
  | .atomic64FetchAnd _ _ _ => false
  | .atomic64Xor _ _ _ => false
  | .atomic64FetchXor _ _ _ => false
  | .atomic64Xchg _ _ _ => false
  | .atomic64Cmpxchg _ _ _ => false
  | .ldImm64 _ _ _ => false
  | .ldMapFd _ _ => false
  | .ldMapValFd _ _ _ => false
  | .ldVarAddr _ _ => false
  | .ldCodeAddr _ _ => false
  | .ldMapIdx _ _ => false
  | .ldMapValIdx _ _ _ => false
  | .ldAbsW _ => false
  | .ldAbsH _ => false
  | .ldAbsB _ => false
  | .ldIndW _ _ => false
  | .ldIndH _ _ => false
  | .ldIndB _ _ => false

/-- The instruction calls or returns: a helper call, a program-local call or EXIT (43_jump.md R249, R256). -/
def callsOrReturns (i : Instr) : Bool :=
  match i with
  | .add32K _ _ => false
  | .add32X _ _ => false
  | .sub32K _ _ => false
  | .sub32X _ _ => false
  | .mul32K _ _ => false
  | .mul32X _ _ => false
  | .div32K _ _ => false
  | .div32X _ _ => false
  | .sdiv32K _ _ => false
  | .sdiv32X _ _ => false
  | .or32K _ _ => false
  | .or32X _ _ => false
  | .and32K _ _ => false
  | .and32X _ _ => false
  | .lsh32K _ _ => false
  | .lsh32X _ _ => false
  | .rsh32K _ _ => false
  | .rsh32X _ _ => false
  | .neg32 _ => false
  | .mod32K _ _ => false
  | .mod32X _ _ => false
  | .smod32K _ _ => false
  | .smod32X _ _ => false
  | .xor32K _ _ => false
  | .xor32X _ _ => false
  | .mov32K _ _ => false
  | .mov32X _ _ => false
  | .movsx32From8 _ _ => false
  | .movsx32From16 _ _ => false
  | .arsh32K _ _ => false
  | .arsh32X _ _ => false
  | .add64K _ _ => false
  | .add64X _ _ => false
  | .sub64K _ _ => false
  | .sub64X _ _ => false
  | .mul64K _ _ => false
  | .mul64X _ _ => false
  | .div64K _ _ => false
  | .div64X _ _ => false
  | .sdiv64K _ _ => false
  | .sdiv64X _ _ => false
  | .or64K _ _ => false
  | .or64X _ _ => false
  | .and64K _ _ => false
  | .and64X _ _ => false
  | .lsh64K _ _ => false
  | .lsh64X _ _ => false
  | .rsh64K _ _ => false
  | .rsh64X _ _ => false
  | .neg64 _ => false
  | .mod64K _ _ => false
  | .mod64X _ _ => false
  | .smod64K _ _ => false
  | .smod64X _ _ => false
  | .xor64K _ _ => false
  | .xor64X _ _ => false
  | .mov64K _ _ => false
  | .mov64X _ _ => false
  | .movsx64From8 _ _ => false
  | .movsx64From16 _ _ => false
  | .movsx64From32 _ _ => false
  | .arsh64K _ _ => false
  | .arsh64X _ _ => false
  | .le16 _ => false
  | .le32 _ => false
  | .le64 _ => false
  | .be16 _ => false
  | .be32 _ => false
  | .be64 _ => false
  | .bswap16 _ => false
  | .bswap32 _ => false
  | .bswap64 _ => false
  | .ja _ => false
  | .ja32 _ => false
  | .jeq64K _ _ _ => false
  | .jeq64X _ _ _ => false
  | .jeq32K _ _ _ => false
  | .jeq32X _ _ _ => false
  | .jgt64K _ _ _ => false
  | .jgt64X _ _ _ => false
  | .jgt32K _ _ _ => false
  | .jgt32X _ _ _ => false
  | .jge64K _ _ _ => false
  | .jge64X _ _ _ => false
  | .jge32K _ _ _ => false
  | .jge32X _ _ _ => false
  | .jset64K _ _ _ => false
  | .jset64X _ _ _ => false
  | .jset32K _ _ _ => false
  | .jset32X _ _ _ => false
  | .jne64K _ _ _ => false
  | .jne64X _ _ _ => false
  | .jne32K _ _ _ => false
  | .jne32X _ _ _ => false
  | .jsgt64K _ _ _ => false
  | .jsgt64X _ _ _ => false
  | .jsgt32K _ _ _ => false
  | .jsgt32X _ _ _ => false
  | .jsge64K _ _ _ => false
  | .jsge64X _ _ _ => false
  | .jsge32K _ _ _ => false
  | .jsge32X _ _ _ => false
  | .jlt64K _ _ _ => false
  | .jlt64X _ _ _ => false
  | .jlt32K _ _ _ => false
  | .jlt32X _ _ _ => false
  | .jle64K _ _ _ => false
  | .jle64X _ _ _ => false
  | .jle32K _ _ _ => false
  | .jle32X _ _ _ => false
  | .jslt64K _ _ _ => false
  | .jslt64X _ _ _ => false
  | .jslt32K _ _ _ => false
  | .jslt32X _ _ _ => false
  | .jsle64K _ _ _ => false
  | .jsle64X _ _ _ => false
  | .jsle32K _ _ _ => false
  | .jsle32X _ _ _ => false
  | .callHelper _ => true
  | .callLocal _ => true
  | .callBtf _ => true
  | .exit => true
  | .ldxB _ _ _ => false
  | .ldxH _ _ _ => false
  | .ldxW _ _ _ => false
  | .ldxDw _ _ _ => false
  | .stB _ _ _ => false
  | .stH _ _ _ => false
  | .stW _ _ _ => false
  | .stDw _ _ _ => false
  | .stxB _ _ _ => false
  | .stxH _ _ _ => false
  | .stxW _ _ _ => false
  | .stxDw _ _ _ => false
  | .ldxsB _ _ _ => false
  | .ldxsH _ _ _ => false
  | .ldxsW _ _ _ => false
  | .atomic32Add _ _ _ => false
  | .atomic32FetchAdd _ _ _ => false
  | .atomic32Or _ _ _ => false
  | .atomic32FetchOr _ _ _ => false
  | .atomic32And _ _ _ => false
  | .atomic32FetchAnd _ _ _ => false
  | .atomic32Xor _ _ _ => false
  | .atomic32FetchXor _ _ _ => false
  | .atomic32Xchg _ _ _ => false
  | .atomic32Cmpxchg _ _ _ => false
  | .atomic64Add _ _ _ => false
  | .atomic64FetchAdd _ _ _ => false
  | .atomic64Or _ _ _ => false
  | .atomic64FetchOr _ _ _ => false
  | .atomic64And _ _ _ => false
  | .atomic64FetchAnd _ _ _ => false
  | .atomic64Xor _ _ _ => false
  | .atomic64FetchXor _ _ _ => false
  | .atomic64Xchg _ _ _ => false
  | .atomic64Cmpxchg _ _ _ => false
  | .ldImm64 _ _ _ => false
  | .ldMapFd _ _ => false
  | .ldMapValFd _ _ _ => false
  | .ldVarAddr _ _ => false
  | .ldCodeAddr _ _ => false
  | .ldMapIdx _ _ => false
  | .ldMapValIdx _ _ _ => false
  | .ldAbsW _ => false
  | .ldAbsH _ => false
  | .ldAbsB _ => false
  | .ldIndW _ _ => false
  | .ldIndH _ _ => false
  | .ldIndB _ _ => false

end Sys2Proof.Machine
end

