-- ==== Sys2Proof/Safety.lean ====
section
/-! DEFINITION. What claims about this machine are stated in: the unused fields of an encoding, readable operands,
the plain shape of a next state, safe runs, and the invariant of the machine. -/

namespace Sys2Proof

/-! ### Encodings -/

/-- The reserved opcode bytes below 0xe0, in the order of 30_encoding.md R82; those from 0xe0 on are reserved too. -/
def reservedOpcodes : List Nat :=
  [0x00, 0x01, 0x02, 0x03, 0x08, 0x09, 0x0a, 0x0b, 0x0d, 0x0e, 0x10, 0x11, 0x12, 0x13, 0x19, 0x1a, 0x1b,
    0x21, 0x22, 0x23, 0x29, 0x2a, 0x2b, 0x31, 0x32, 0x33, 0x38, 0x39, 0x3a, 0x3b, 0x41, 0x42, 0x43, 0x49,
    0x4a, 0x4b, 0x51, 0x52, 0x53, 0x58, 0x59, 0x5a, 0x5b, 0x60, 0x68, 0x70, 0x78, 0x80, 0x82, 0x83, 0x86,
    0x88, 0x8a, 0x8b, 0x8c, 0x8d, 0x8e, 0x8f, 0x90, 0x92, 0x93, 0x96, 0x98, 0x99, 0x9a, 0x9b, 0x9d, 0x9e,
    0xa0, 0xa1, 0xa2, 0xa3, 0xa8, 0xa9, 0xaa, 0xab, 0xb0, 0xb1, 0xb2, 0xb3, 0xb8, 0xb9, 0xba, 0xbb, 0xc0,
    0xc1, 0xc2, 0xc8, 0xc9, 0xca, 0xcb, 0xd0, 0xd1, 0xd2, 0xd3, 0xd8, 0xd9, 0xda, 0xdf]

/-- Marks on the fields of a slot. -/
structure FieldMarks where
  dst : Bool
  src : Bool
  offset : Bool
  imm : Bool
  deriving DecidableEq, Repr

/-- The unused fields of a 64-bit immediate or packet instruction (30_encoding.md R76). -/
def unusedLd (f : Fields) : FieldMarks :=
  match f.mode with
  | 0 => { dst := false, src := false, offset := true, imm := false }
  | 1 => { dst := true, src := true, offset := true, imm := false }
  | _ => { dst := true, src := false, offset := true, imm := false }

/-- The unused field of an instruction with a `K` and an `X` form: `src_reg` or `imm` (30_encoding.md R76). -/
def unusedKX (f : Fields) : FieldMarks := { dst := false, src := !f.sourceX, offset := false, imm := f.sourceX }

/-- The unused fields of an arithmetic instruction (30_encoding.md R76): NEG has two, a byte swap reads `imm` in both
its forms; `offset` is a selector (R73). -/
def unusedAlu (f : Fields) : FieldMarks :=
  match f.code with
  | 0x8 => { dst := false, src := true, offset := false, imm := true }
  | 0xd => { dst := false, src := true, offset := false, imm := false }
  | _ => unusedKX f

/-- The unused fields of an instruction of class JMP (30_encoding.md R76); `src_reg` selects CALL, JA and EXIT (R98,
43_jump.md R257). -/
def unusedJmp (f : Fields) : FieldMarks :=
  match f.code with
  | 0x0 => { dst := true, src := false, offset := false, imm := true }
  | 0x8 => { dst := true, src := false, offset := true, imm := false }
  | 0x9 => { dst := true, src := false, offset := true, imm := true }
  | _ => unusedKX f

/-- The unused fields of an instruction of class JMP32 (30_encoding.md R76; R98, 43_jump.md R257 for JA). -/
def unusedJmp32 (f : Fields) : FieldMarks :=
  match f.code with
  | 0x0 => { dst := true, src := false, offset := true, imm := false }
  | _ => unusedKX f

/-- The unused fields of an encoding, by its class (30_encoding.md R76). An atomic operation has none. -/
def Fields.unused (f : Fields) : FieldMarks :=
  match f.cls with
  | 0 => unusedLd f
  | 1 => { dst := false, src := false, offset := false, imm := true }
  | 2 => { dst := false, src := true, offset := false, imm := false }
  | 3 => { dst := false, src := false, offset := false, imm := f.mode != 6 }
  | 5 => unusedJmp f
  | 6 => unusedJmp32 f
  | _ => unusedAlu f

/-- The encoding with its unused fields cleared to zero (30_encoding.md R76). -/
def Fields.cleared (f : Fields) : Fields :=
  { opcode := f.opcode
    dst := if f.unused.dst then 0#4 else f.dst
    src := if f.unused.src then 0#4 else f.src
    offset := if f.unused.offset then 0#16 else f.offset
    imm := if f.unused.imm then 0#32 else f.imm }

/-- The slot `g` after `f` with what a wide instruction leaves unused there cleared: the reserved bits, and `next_imm`
where `src_reg` is 1, 3, 4 or 5 (30_encoding.md R76). After a basic instruction it is another instruction. -/
def Fields.clearedSecond (f g : Fields) : Fields :=
  if f.opcode = wideOpcode then
    { opcode := 0#8, dst := 0#4, src := 0#4, offset := 0#16
      imm := if f.src.toNat ∈ [1, 3, 4, 5] then 0#32 else g.imm }
  else g

end Sys2Proof

namespace Sys2Proof.Machine

/-- Reading these registers raises no fault: each is written, or the platform draws a value for an unwritten one
(10_state.md R24, log 5). -/
def Readable (s : State) (rs : List Reg) : Prop :=
  s.cfg.unwrittenRaises = true → ∀ r ∈ rs, (s.x.get r).written = true

/-- The state with `v` written to `d` and the pc moved on by `slots`, all else unchanged. -/
def wrote (s : State) (d : Reg) (v : Word) (slots : Int) : State :=
  { s with x := s.x.set d { val := v, written := true }, pc := s.pc + slots }

/-- The state with the low `8n` bits of `v` stored in host order at `addr` and the pc moved on by one slot, all
else unchanged. -/
def stored (s : State) (addr : Word) (n : Nat) (v : Word) : State :=
  { s with mem := s.mem.putBytes addr (hostBytes s.cfg.hostEndian n v), pc := s.pc + 1 }

/-- The address is one of the `n` from `addr` on. -/
def inRange (addr : Word) (n a : Nat) : Prop := addr.toNat ≤ a ∧ a < addr.toNat + n

/-- Some region the platform gave the program, in force at this call depth and open to this kind of access, holds
the address (20_memory.md R46). -/
def reachable (s : State) (kind : AccessKind) (a : Nat) : Prop :=
  ∃ r ∈ s.cfg.regions, r.permits kind = true ∧ r.inForce s.callstack.length = true ∧ r.holds a = true

/-- No region marked shared overlaps the `n` bytes from `addr`: no other agent writes them (20_memory.md R56). -/
def privateRange (s : State) (addr : Word) (n : Nat) : Prop :=
  ∀ a, inRange addr n a → isShared s a = false

/-! ### Results, by what the specification says of them -/

/-- `q` is `DIV` of `a` by `b`: 0 for a zero divisor, else the quotient of the unsigned values (40_alu32.md R103,
41_alu64.md R143). -/
def isQuotient {w : Nat} (a b q : BitVec w) : Prop :=
  (b = 0#w → q = 0#w) ∧ (b ≠ 0#w → q.toNat = a.toNat / b.toNat)

/-- `r` is `MOD` of `a` by `b`: the dividend for a zero divisor, else what the quotient leaves (40_alu32.md R103,
41_alu64.md R143). -/
def isRemainder {w : Nat} (a b r : BitVec w) : Prop :=
  (b = 0#w → r = a) ∧ (b ≠ 0#w → r.toNat = a.toNat - b.toNat * (a.toNat / b.toNat))

/-- The one signed division whose quotient has no place: the most negative number by -1 (40_alu32.md R103,
41_alu64.md R143). -/
def overflows {w : Nat} (a b : BitVec w) : Prop := a.toInt = -(2 ^ (w - 1)) ∧ b.toInt = -1

/-- `q` is `SDIV` of `a` by `b`: 0 for a zero divisor, the most negative number on overflow, else the quotient of
the signed values, rounded toward zero (40_alu32.md R103, 41_alu64.md R143). -/
def isSignedQuotient {w : Nat} (a b q : BitVec w) : Prop :=
  (b = 0#w → q = 0#w) ∧ (overflows a b → q.toInt = -(2 ^ (w - 1))) ∧
    (b ≠ 0#w → ¬ overflows a b → q.toInt = a.toInt.tdiv b.toInt)

/-- `r` is `SMOD` of `a` by `b`: the dividend for a zero divisor, 0 on overflow, else what the quotient rounded
toward zero leaves (40_alu32.md R103, 41_alu64.md R143). -/
def isSignedRemainder {w : Nat} (a b r : BitVec w) : Prop :=
  (b = 0#w → r = a) ∧ (overflows a b → r = 0#w) ∧
    (b ≠ 0#w → ¬ overflows a b → r.toInt = a.toInt - b.toInt * a.toInt.tdiv b.toInt)

/-- The low `n` bytes of `w` are those of `v`. -/
def sameBytes (n : Nat) (v w : Word) : Prop := ∀ k < n, w.extractLsb' (8 * k) 8 = v.extractLsb' (8 * k) 8

/-- The low `n` bytes of `w` are those of `v` in the opposite order (00_scope.md R9). -/
def reversedBytes (n : Nat) (v w : Word) : Prop :=
  ∀ k < n, w.extractLsb' (8 * k) 8 = v.extractLsb' (8 * (n - 1 - k)) 8

/-- A conditional jump at `pc`, taken or not (43_jump.md R201). -/
def branched (s : State) (off : Word16) (taken : Bool) : State :=
  { s with pc := s.pc + 1 + (if taken then off.toInt else 0) }

/-- The state a helper call leaves, for the outcome the platform gives it (43_jump.md R252, R254, R255; logs 12,
21). -/
def helperResult (s : State) (kind : HelperKind) (id : Word32) : State :=
  match Config.helperCall s.tick kind id (helperArgs s.x) s.mem with
  | .returns result writes =>
    { s with
      x :=
        { s.x with
          r0 := { val := result, written := true }
          r1 := { s.x.r1 with written := false }
          r2 := { s.x.r2 with written := false }
          r3 := { s.x.r3 with written := false }
          r4 := { s.x.r4 with written := false }
          r5 := { s.x.r5 with written := false } }
      mem := s.mem.putAll writes
      pc := s.pc + 1 }
  | .faults code => { s with status := .faulted (.platform s.pc code) }
  | .stillRunning => s

/-! ### Accesses -/

/-- The address is a multiple of the width where this access needs it: an atomic one always, a plain one when the
platform asks for it (20_memory.md R47, R52). -/
def aligned (s : State) (kind : AccessKind) (addr : Word) (n : Nat) : Prop :=
  kind = .atomic ∨ s.cfg.alignRequired = true → addr.toNat % n = 0

/-- The access raises no fault: it is aligned and admitted (20_memory.md R44, R45, R52). -/
def Accessible (s : State) (kind : AccessKind) (addr : Word) (n : Nat) : Prop :=
  aligned s kind addr n ∧ memAdmit s addr n kind = true

/-- Every check ahead of the access passes: the instruction would not write `x[10]`, and its operands can be read
(60_exceptions.md R342). -/
def reachesAccess (s : State) (i : Instr) : Prop := target i ≠ some .r10 ∧ Readable s (sources i)

/-! ### What a program may read -/

/-- Some region, in force now or at another call depth, lets the program read the byte, by loads or by atomic
operations (20_memory.md R46). -/
def openByte (s : State) (a : Nat) : Prop :=
  ∃ g ∈ s.cfg.regions, (g.permits .read = true ∨ g.permits .atomic = true) ∧ g.holds a = true

/-- Two states that differ at most in bytes closed to the program. -/
def agreeOnOpenBytes (s t : State) : Prop :=
  t = { s with mem := t.mem } ∧ ∀ a, openByte s a → t.mem.get? a = s.mem.get? a

/-! ### Runs -/

/-- The instance has not faulted. -/
def State.Safe (s : State) : Prop := ∀ f, s.status ≠ .faulted f

/-- A run: `t` is reached from `s` in some number of steps. -/
inductive Reaches : State → State → Prop where
  | refl (s : State) : Reaches s s
  | step {s t u : State} (h : Reaches s t) (n : Sys2Proof.Machine.step t = .next u) : Reaches s u

/-- A program is fault-free from `s`: every state of its run is safe. Termination is no part of it
(60_exceptions.md R346). -/
def FaultFree (s : State) : Prop := ∀ t, Reaches s t → t.Safe

/-! ### The invariant -/

/-- A slot a return may go to: an instruction start, or the end of the program. -/
def returnSlot (prog : List Slot) (t : Int) : Prop := validPc prog t = true ∨ t = prog.length

/-- The invariant of the machine. -/
structure State.Inv (s : State) : Prop where
  /-- Data memory is in its canonical form (20_memory.md R40). -/
  memory : s.mem.wf = true
  /-- `x[10]` is written and holds the frame address of the current depth (10_state.md R23, 43_jump.md R255). -/
  framePointer : s.x.r10 = { val := frameFor s.cfg s.callstack.length, written := true }
  /-- Every frame saves the frame address of its depth (10_state.md R29). -/
  savedPointers : ∀ (k : Nat) (f : Frame), s.callstack[k]? =
      some f → f.fp = { val := frameFor s.cfg k, written := true }
  /-- The call stack is no deeper than `MAX_CALL_DEPTH` (10_state.md R29). -/
  depth : ∀ n, s.cfg.maxCallDepth = some n → s.callstack.length ≤ n
  /-- Every return slot is an instruction start or the end of the program, never the second slot of a wide
  instruction (10_state.md R28, 43_jump.md R253). -/
  returns : ∀ f ∈ s.callstack, returnSlot s.prog f.ret

end Sys2Proof.Machine
end

