-- ==== Sys2Proof/Certificates/Slice0/Obligations.lean ====
section
/-! DEFINITION. The statements for the provers, from the numbered rules of the specification. Each docstring names
the rule or decision it rests on; a statement of basis derived rests on what the specification marks as its own
decision or inference, or on a choice of the model that a log entry names. -/

open Sys2Proof Sys2Proof.Machine

/-- What entry leaves, as the spec's decision D5 has it (10_state.md R35), and that reset is an entry; the values of
`ENTRY` and `FrameFor` at reset are the model's (logs 7, 8). -/
def Obligations.ResetState : Prop :=
  (State.reset.pc = 0 ∧ State.reset.callstack = [] ∧ State.reset.status = .running ∧ State.reset.mem = [] ∧
    State.reset.x.r1.written = true ∧
    State.reset.x.r10 = { val := frameFor State.reset.cfg 0, written := true } ∧
    ∀ r : Reg, r ≠ .r1 → r ≠ .r10 → (State.reset.x.get r).written = false) ∧
  State.reset = State.enter resetPlatform [] ∧
  ∀ (p : Platform) (prog : List Slot),
    (State.enter p prog).pc = 0 ∧ (State.enter p prog).callstack = [] ∧
      (State.enter p prog).status = .running ∧ (State.enter p prog).mem = [] ∧
      (State.enter p prog).prog = prog ∧ (State.enter p prog).cfg = p ∧
      (State.enter p prog).x.r1 = { val := p.entry.ctx, written := true } ∧
      (State.enter p prog).x.r10 = { val := frameFor p 0, written := true } ∧
      (∀ r ∈ [Reg.r0, .r6, .r7, .r8, .r9], ((State.enter p prog).x.get r).written = false) ∧
      ∀ q ∈ [(Reg.r2, p.entry.x2), (.r3, p.entry.x3), (.r4, p.entry.x4), (.r5, p.entry.x5)],
        (∀ v, q.2 = some v → (State.enter p prog).x.get q.1 = { val := v, written := true }) ∧
          (q.2 = none → ((State.enter p prog).x.get q.1).written = false)

/-- The invariant holds at reset and at every entry; MAX_CALL_DEPTH and FrameFor at reset are the model's choice
(logs 8, 10). -/
def Obligations.ResetKeepsInvariant : Prop :=
  State.reset.Inv ∧ ∀ (p : Platform) (prog : List Slot), (State.enter p prog).Inv

/-- Every step keeps the invariant. The register roles and the call stack are the spec's decisions D5, D8, D10; how
memory and FrameFor are written as data is the model's (logs 8, 9). -/
def Obligations.StepKeepsInvariant : Prop :=
  ∀ s t : State, s.Inv → step s = .next t → t.Inv

/-- Decoding undoes encoding, for every instruction, host and strictness (30_encoding.md R60 to R86). -/
def Obligations.DecodeOfEncode : Prop :=
  ∀ (e : Endian) (strict : Bool) (i : Instr) (rest : List Byte),
    decode e strict (encode e i ++ rest) = .ok (i, rest)

/-- Under `STRICT_UNUSED` encoding undoes decoding (30_encoding.md R76, R80, R86). -/
def Obligations.EncodeOfDecode : Prop :=
  ∀ (e : Endian) (i : Instr) (bytes rest : List Byte),
    decode e true bytes = .ok (i, rest) → bytes = encode e i ++ rest

/-- The lenient decoder differs from the strict one on unused fields alone (30_encoding.md R76, R80, decision D3;
which fields these are in a second slot and in a byte swap is the model's reading, logs 4, 23). -/
def Obligations.LenientDecoderIgnoresUnusedFieldsOnly : Prop :=
  ∀ (f : Fields) (second : Option Fields),
    decodeFields false f second = decodeFields true f.cleared (second.map f.clearedSecond) ∧
      (∀ i, decodeFields true f second = .ok i →
        f.cleared = f ∧ second.map f.clearedSecond = second ∧ decodeFields false f second = .ok i) ∧
      (∀ err, decodeFields true f second = .error err → err ≠ .unusedField →
        decodeFields false f second = .error err)

/-- The reserved opcode bytes are exactly those of 30_encoding.md R82, which the spec marks derived. -/
def Obligations.ReservedOpcodes : Prop :=
  ∀ op : BitVec 8,
    (op.toNat ∈ reservedOpcodes ∨ 0xe0 ≤ op.toNat →
      ∀ (strict : Bool) (f : Fields) (second : Option Fields), f.opcode = op →
        decodeFields strict f second = .error (.reservedOpcode op)) ∧
    (op.toNat ∉ reservedOpcodes → op.toNat < 0xe0 →
      ∃ (f : Fields) (second : Option Fields) (i : Instr), f.opcode = op ∧ decodeFields true f second = .ok i)

/-- The `offset` field selects the operation in classes ALU and ALU64 (30_encoding.md R73). -/
def Obligations.OffsetSelectsOperation : Prop :=
  ∀ (strict : Bool) (f : Fields) (second : Option Fields) (i : Instr), f.cls = 4 ∨ f.cls = 7 →
    decodeFields strict f second = .ok i →
    (f.code = 0x3 →
      (f.offset = 0#16 ∧
        ∃ d r imm, i = .div32K d imm ∨ i = .div32X d r ∨ i = .div64K d imm ∨ i = .div64X d r) ∨
      (f.offset = 1#16 ∧
        ∃ d r imm, i = .sdiv32K d imm ∨ i = .sdiv32X d r ∨ i = .sdiv64K d imm ∨ i = .sdiv64X d r)) ∧
    (f.code = 0x9 →
      (f.offset = 0#16 ∧
        ∃ d r imm, i = .mod32K d imm ∨ i = .mod32X d r ∨ i = .mod64K d imm ∨ i = .mod64X d r) ∨
      (f.offset = 1#16 ∧
        ∃ d r imm, i = .smod32K d imm ∨ i = .smod32X d r ∨ i = .smod64K d imm ∨ i = .smod64X d r)) ∧
    (f.code = 0xb →
      (f.offset = 0#16 ∧
        ∃ d r imm, i = .mov32K d imm ∨ i = .mov32X d r ∨ i = .mov64K d imm ∨ i = .mov64X d r) ∨
      (f.sourceX = true ∧ f.offset = 8#16 ∧
        ∃ d r, (f.cls = 4 ∧ i = .movsx32From8 d r) ∨ (f.cls = 7 ∧ i = .movsx64From8 d r)) ∨
      (f.sourceX = true ∧ f.offset = 16#16 ∧
        ∃ d r, (f.cls = 4 ∧ i = .movsx32From16 d r) ∨ (f.cls = 7 ∧ i = .movsx64From16 d r)) ∨
      (f.sourceX = true ∧ f.offset = 32#16 ∧ f.cls = 7 ∧ ∃ d r, i = .movsx64From32 d r)) ∧
    (f.code ≠ 0x3 → f.code ≠ 0x9 → f.code ≠ 0xb → f.offset = 0#16)

/-- `src_reg` is a subtype in CALL and in the 64-bit immediate instructions (30_encoding.md R74). -/
def Obligations.SourceSelectsSubtype : Prop :=
  (∀ (strict : Bool) (f : Fields) (second : Option Fields) (i : Instr), f.opcode = 0x85#8 →
    decodeFields strict f second = .ok i →
    (f.src = 0#4 ∧ i = .callHelper f.imm) ∨ (f.src = 1#4 ∧ i = .callLocal f.imm) ∨
      (f.src = 2#4 ∧ i = .callBtf f.imm)) ∧
  (∀ (strict : Bool) (f : Fields) (second : Option Fields) (i : Instr), f.opcode = 0x18#8 →
    decodeFields strict f second = .ok i →
    ∃ d next, (f.src = 0#4 ∧ i = .ldImm64 d f.imm next) ∨ (f.src = 1#4 ∧ i = .ldMapFd d f.imm) ∨
      (f.src = 2#4 ∧ i = .ldMapValFd d f.imm next) ∨ (f.src = 3#4 ∧ i = .ldVarAddr d f.imm) ∨
      (f.src = 4#4 ∧ i = .ldCodeAddr d f.imm) ∨ (f.src = 5#4 ∧ i = .ldMapIdx d f.imm) ∨
      (f.src = 6#4 ∧ i = .ldMapValIdx d f.imm next)) ∧
  (∀ k : BitVec 4, k.toNat < 3 → ∃ (f : Fields) (i : Instr),
    f.opcode = 0x85#8 ∧ f.src = k ∧ decodeFields true f none = .ok i) ∧
  (∀ k : BitVec 4, k.toNat < 7 → ∃ (f g : Fields) (i : Instr),
    f.opcode = 0x18#8 ∧ f.src = k ∧ decodeFields true f (some g) = .ok i)

/-- Words written out from the encodings of the spec (30_encoding.md R64 to R66, opcode_table.json). -/
def Obligations.DecodedWords : Prop :=
  decodeTableWord 64 0x1122334400000107 = some (.add64K .r1 0x11223344#32) ∧
    decodeTableWord 64 0x000000000000210c = some (.add32X .r1 .r2) ∧
    decodeTableWord 64 0xfffffffe00010334 = some (.sdiv32K .r3 0xfffffffe#32) ∧
    decodeTableWord 64 0x00000000001065bf = some (.movsx64From16 .r5 .r6) ∧
    decodeTableWord 64 0x00000020000007dc = some (.be32 .r7) ∧
    decodeTableWord 64 0x00000000fffe0005 = some (.ja 0xfffe#16) ∧
    decodeTableWord 64 0x00000000000398de = some (.jsle32X .r8 .r9 3#16) ∧
    decodeTableWord 64 0x0000000700001085 = some (.callLocal 7#32) ∧
    decodeTableWord 64 0x0000000000000095 = some .exit ∧
    decodeTableWord 64 0x00000000fff8a161 = some (.ldxW .r1 .r10 0xfff8#16) ∧
    decodeTableWord 64 0xffffffff00080a7a = some (.stDw .r10 0xffffffff#32 8#16) ∧
    decodeTableWord 64 0x000000000002216b = some (.stxH .r1 .r2 2#16) ∧
    decodeTableWord 64 0x0000000000012191 = some (.ldxsB .r1 .r2 1#16) ∧
    decodeTableWord 64 0x000000f1000821db = some (.atomic64Cmpxchg .r1 .r2 8#16) ∧
    decodeTableWord 128 0x11223344000000005566778800000118 = some (.ldImm64 .r1 0x55667788#32 0x11223344#32) ∧
    decodeTableWord 128 0x00000008000000000000000300002118 = some (.ldMapValFd .r1 3#32 8#32) ∧
    decodeTableWord 64 0x0000000e00006040 = some (.ldIndW .r6 14#32)

/-- The nibbles of byte 1 follow the host (30_encoding.md R62). -/
def Obligations.RegsByteFollowsHost : Prop :=
  (∀ f : Fields,
    (slotBytes (f.toSlot .little))[1]? = some (f.src ++ f.dst) ∧
      (slotBytes (f.toSlot .big))[1]? = some (f.dst ++ f.src)) ∧
  (∀ w : Slot,
    (slotBytes w)[1]? = some ((Fields.ofSlot .little w).src ++ (Fields.ofSlot .little w).dst) ∧
      (slotBytes w)[1]? = some ((Fields.ofSlot .big w).dst ++ (Fields.ofSlot .big w).src)) ∧
  (encode .little (.add64K .r1 0x11223344#32))[1]? = some 0x01#8 ∧
  (encode .big (.add64K .r1 0x11223344#32))[1]? = some 0x10#8

/-- A step runs the decoded instruction (60_exceptions.md R355); the step counter is the model's (log 15). -/
def Obligations.StepRunsDecodedInstruction : Prop :=
  ∀ (s : State) (w : Slot) (i : Instr), s.status = .running → validPc s.prog s.pc = true →
    s.prog[s.pc.toNat]? = some w →
    decodeSlots s.cfg.hostEndian s.cfg.strictUnused w s.prog[s.pc.toNat + 1]? = .ok i →
    i.wf s.cfg.groups = true →
    step s =
      match exec i s with
      | .next t => .next { t with tick := t.tick + 1 }
      | .fault f => .fault f
      | .refused r => .refused r

/-- The faults of fetch and decode (10_state.md R27, R28; 30_encoding.md R80, R85; decisions D2, D3, D7, D8). -/
def Obligations.FetchFaults : Prop :=
  ∀ s : State, s.status = .running →
    (validPc s.prog s.pc = false →
      step s = .next { s with status := .faulted (.badPc s.pc), tick := s.tick + 1 }) ∧
    (∀ (w : Slot) (err : DecodeError), validPc s.prog s.pc = true → s.prog[s.pc.toNat]? = some w →
      decodeSlots s.cfg.hostEndian s.cfg.strictUnused w s.prog[s.pc.toNat + 1]? = .error err →
      step s = .next { s with status := .faulted (.illegalInstruction s.pc), tick := s.tick + 1 }) ∧
    (∀ (w : Slot) (i : Instr), validPc s.prog s.pc = true → s.prog[s.pc.toNat]? = some w →
      decodeSlots s.cfg.hostEndian s.cfg.strictUnused w s.prog[s.pc.toNat + 1]? = .ok i →
      i.wf s.cfg.groups = false →
      step s = .next { s with status := .faulted (.illegalInstruction s.pc), tick := s.tick + 1 })

/-- Instruction starts by the linear scan (10_state.md R28), and pcs outside the program (R27; decisions D7, D8). -/
def Obligations.InstructionStarts : Prop :=
  ∀ prog : List Slot,
    (prog ≠ [] → validPc prog 0 = true) ∧
    (∀ (n : Nat) (w : Slot), validPc prog n = true → prog[n]? = some w → w.extractLsb' 0 8 = 0x18#8 →
      validPc prog (n + 1) = false ∧ (n + 2 < prog.length → validPc prog (n + 2) = true)) ∧
    (∀ (n : Nat) (w : Slot), validPc prog n = true → prog[n]? = some w → w.extractLsb' 0 8 ≠ 0x18#8 →
      n + 1 < prog.length → validPc prog (n + 1) = true) ∧
    (∀ pc : Int, pc < 0 ∨ (prog.length : Int) ≤ pc → validPc prog pc = false)

/-- From Exited or Faulted there is no step (60_exceptions.md R355, which the spec marks derived; the form of the
answer is the model's, log 16). -/
def Obligations.StepAnswersFromRunningOnly : Prop :=
  ∀ s : State, (s.status = .running ↔ ∃ t, step s = .next t) ∧ (s.status ≠ .running → step s = .fault .stopped)

/-- Faults are precise (60_exceptions.md R340, the spec's decision D25). -/
def Obligations.FaultsArePrecise : Prop :=
  ∀ (s t : State) (f : RunFault), step s = .next t → t.status = .faulted f →
    t = { s with status := .faulted f, tick := s.tick + 1 }

/-- Only the outermost EXIT ends a run without a fault (60_exceptions.md R346, 43_jump.md R256; decision D11). -/
def Obligations.OnlyExitEndsARun : Prop :=
  ∀ (s t : State) (v : Word), step s = .next t → t.status = .exited v →
    fetch s = .ok .exit ∧ s.callstack = [] ∧ v = r0Val s ∧
      t = { s with status := .exited v, tick := s.tick + 1 }

/-- A program changes the call stack only through CALL and EXIT (10_state.md R29, decision D10). -/
def Obligations.OnlyCallsAndReturnsMoveTheCallStack : Prop :=
  ∀ (s t : State) (i : Instr), exec i s = .next t →
    t.callstack = s.callstack ∨
      ((∃ imm, i = .callLocal imm) ∧ ∃ f, t.callstack = s.callstack ++ [f]) ∨
      (i = .exit ∧ s.callstack ≠ [] ∧ t.callstack = s.callstack.dropLast)

/-- Program text and configuration are parameters of the step relation (10_state.md R20, 20_memory.md R57, decision
D24); the counter is the model's (log 15). -/
def Obligations.StepKeepsProgramAndConfiguration : Prop :=
  ∀ s t : State, step s = .next t → t.prog = s.prog ∧ t.cfg = s.cfg ∧ t.tick = s.tick + 1

/-- A program-local call (43_jump.md R253, R255; decision D10, log 6). -/
def Obligations.CallLocalResult : Prop :=
  ∀ (s : State) (imm : Word32),
    ((∀ n, s.cfg.maxCallDepth = some n → s.callstack.length < n) →
      exec (.callLocal imm) s = .next
        { s with
          x :=
            { s.x with
              r0 := { s.x.r0 with written := false }
              r6 := { s.x.r6 with written := false }
              r7 := { s.x.r7 with written := false }
              r8 := { s.x.r8 with written := false }
              r9 := { s.x.r9 with written := false }
              r10 := { val := frameFor s.cfg (s.callstack.length + 1), written := true } }
          callstack := s.callstack ++
            [{ ret := s.pc + 1, x6 := s.x.r6, x7 := s.x.r7, x8 := s.x.r8, x9 := s.x.r9, fp := s.x.r10 }]
          pc := s.pc + 1 + imm.toInt }) ∧
    (∀ n, s.cfg.maxCallDepth = some n → n ≤ s.callstack.length →
      exec (.callLocal imm) s = .next { s with status := .faulted (.callDepth s.pc) })

/-- A call and its return, as a caller sees them (43_jump.md R253, R255, R256; decision D10). -/
def Obligations.CallThenReturnRestores : Prop :=
  ∀ (s t u : State) (imm : Word32), s.status = .running → exec (.callLocal imm) s = .next t →
    t.status = .running → u.callstack = t.callstack →
    ∃ v, exec .exit u = .next v ∧ v.pc = s.pc + 1 ∧ v.callstack = s.callstack ∧ v.x.r6 = s.x.r6 ∧
      v.x.r7 = s.x.r7 ∧ v.x.r8 = s.x.r8 ∧ v.x.r9 = s.x.r9 ∧ v.x.r10 = s.x.r10 ∧ v.x.r0 = u.x.r0 ∧
      v.mem = u.mem ∧ v.status = u.status ∧
      ∀ r ∈ [Reg.r1, .r2, .r3, .r4, .r5], (v.x.get r).written = false

/-- EXIT (43_jump.md R256; decisions D10, D11; logs 5, 6). -/
def Obligations.ExitResult : Prop :=
  ∀ s : State,
    (s.callstack = [] → Readable s [.r0] → exec .exit s = .next { s with status := .exited (r0Val s) }) ∧
    (s.callstack = [] → s.cfg.unwrittenRaises = true → s.x.r0.written = false →
      exec .exit s = .next { s with status := .faulted (.unwrittenRegister s.pc .r0) }) ∧
    (∀ (rest : List Frame) (f : Frame), s.callstack = rest ++ [f] →
      exec .exit s = .next
        { s with
          x :=
            { s.x with
              r1 := { s.x.r1 with written := false }
              r2 := { s.x.r2 with written := false }
              r3 := { s.x.r3 with written := false }
              r4 := { s.x.r4 with written := false }
              r5 := { s.x.r5 with written := false }
              r6 := f.x6, r7 := f.x7, r8 := f.x8, r9 := f.x9, r10 := f.fp }
          callstack := rest
          pc := f.ret })

/-- Helper calls (43_jump.md R252, R254; decision D12; logs 12, 21). -/
def Obligations.HelperCallResult : Prop :=
  ∀ (s : State) (id : Word32),
    ((HelperKind.static, id) ∈ s.cfg.helpers → exec (.callHelper id) s = .next (helperResult s .static id)) ∧
    ((HelperKind.btf, id) ∈ s.cfg.helpers → exec (.callBtf id) s = .next (helperResult s .btf id)) ∧
    ((HelperKind.static, id) ∉ s.cfg.helpers →
      exec (.callHelper id) s = .next { s with status := .faulted (.unknownHelper s.pc .static id) }) ∧
    ((HelperKind.btf, id) ∉ s.cfg.helpers →
      exec (.callBtf id) s = .next { s with status := .faulted (.unknownHelper s.pc .btf id) })

/-- Arithmetic and logic of class ALU (40_alu32.md R100 to R129; decision D5 for the x[10] check). -/
def Obligations.Alu32Arithmetic : Prop :=
  ∀ (s : State) (d r : Reg) (imm : Word32), d ≠ .r10 →
    (Readable s [d] →
      exec (.add32K d imm) s = .next (wrote s d (((dstVal s d).setWidth 32 + imm).setWidth 64) 1) ∧
      exec (.sub32K d imm) s = .next (wrote s d (((dstVal s d).setWidth 32 - imm).setWidth 64) 1) ∧
      exec (.or32K d imm) s = .next (wrote s d (((dstVal s d).setWidth 32 ||| imm).setWidth 64) 1) ∧
      exec (.and32K d imm) s = .next (wrote s d (((dstVal s d).setWidth 32 &&& imm).setWidth 64) 1) ∧
      exec (.xor32K d imm) s = .next (wrote s d (((dstVal s d).setWidth 32 ^^^ imm).setWidth 64) 1) ∧
      exec (.mul32K d imm) s = .next (wrote s d (((dstVal s d).setWidth 32 * imm).setWidth 64) 1)) ∧
    (Readable s [d, r] →
      exec (.add32X d r) s = .next (wrote s d (((dstVal s d).setWidth 32 + (srcVal s r).setWidth 32).setWidth 64) 1) ∧
      exec (.sub32X d r) s = .next (wrote s d (((dstVal s d).setWidth 32 - (srcVal s r).setWidth 32).setWidth 64) 1) ∧
      exec (.or32X d r) s =
        .next (wrote s d (((dstVal s d).setWidth 32 ||| (srcVal s r).setWidth 32).setWidth 64) 1) ∧
      exec (.and32X d r) s =
        .next (wrote s d (((dstVal s d).setWidth 32 &&& (srcVal s r).setWidth 32).setWidth 64) 1) ∧
      exec (.xor32X d r) s =
        .next (wrote s d (((dstVal s d).setWidth 32 ^^^ (srcVal s r).setWidth 32).setWidth 64) 1) ∧
      exec (.mul32X d r) s = .next (wrote s d (((dstVal s d).setWidth 32 * (srcVal s r).setWidth 32).setWidth 64) 1))

/-- Shifts, negation and moves of class ALU (40_alu32.md R100 to R135). -/
def Obligations.Alu32ShiftsAndMoves : Prop :=
  ∀ (s : State) (d r : Reg) (imm : Word32), d ≠ .r10 →
    exec (.mov32K d imm) s = .next (wrote s d (imm.setWidth 64) 1) ∧
    (Readable s [d] →
      exec (.lsh32K d imm) s = .next (wrote s d (((dstVal s d).setWidth 32 <<< (imm.toNat % 32)).setWidth 64) 1) ∧
      exec (.rsh32K d imm) s = .next (wrote s d (((dstVal s d).setWidth 32 >>> (imm.toNat % 32)).setWidth 64) 1) ∧
      exec (.arsh32K d imm) s =
        .next (wrote s d ((((dstVal s d).setWidth 32).sshiftRight (imm.toNat % 32)).setWidth 64) 1) ∧
      exec (.neg32 d) s = .next (wrote s d ((-((dstVal s d).setWidth 32)).setWidth 64) 1)) ∧
    (Readable s [d, r] →
      exec (.lsh32X d r) s =
        .next (wrote s d (((dstVal s d).setWidth 32 <<< (((srcVal s r).setWidth 32).toNat % 32)).setWidth 64) 1) ∧
      exec (.rsh32X d r) s =
        .next (wrote s d (((dstVal s d).setWidth 32 >>> (((srcVal s r).setWidth 32).toNat % 32)).setWidth 64) 1) ∧
      exec (.arsh32X d r) s =
        .next (wrote s d ((((dstVal s d).setWidth 32).sshiftRight (((srcVal s r).setWidth 32).toNat % 32)).setWidth 64) 1)) ∧
    (Readable s [r] →
      exec (.mov32X d r) s = .next (wrote s d (((srcVal s r).setWidth 32).setWidth 64) 1) ∧
      exec (.movsx32From8 d r) s = .next (wrote s d (((srcVal s r).setWidth 8).signExtend 32 |>.setWidth 64) 1) ∧
      exec (.movsx32From16 d r) s = .next (wrote s d (((srcVal s r).setWidth 16).signExtend 32 |>.setWidth 64) 1))

/-- Division and remainder of class ALU, all cases (decision D18 for the rounding of SDIV). -/
def Obligations.Alu32Division : Prop :=
  ∀ (s : State) (d r : Reg) (imm : Word32), d ≠ .r10 →
    (Readable s [d] →
      (∃ v : Word32, isQuotient ((dstVal s d).setWidth 32) imm v ∧
          exec (.div32K d imm) s = .next (wrote s d (v.setWidth 64) 1)) ∧
      (∃ v : Word32, isRemainder ((dstVal s d).setWidth 32) imm v ∧
          exec (.mod32K d imm) s = .next (wrote s d (v.setWidth 64) 1)) ∧
      (∃ v : Word32, isSignedQuotient ((dstVal s d).setWidth 32) imm v ∧
          exec (.sdiv32K d imm) s = .next (wrote s d (v.setWidth 64) 1)) ∧
      (∃ v : Word32, isSignedRemainder ((dstVal s d).setWidth 32) imm v ∧
          exec (.smod32K d imm) s = .next (wrote s d (v.setWidth 64) 1))) ∧
    (Readable s [d, r] →
      (∃ v : Word32, isQuotient ((dstVal s d).setWidth 32) ((srcVal s r).setWidth 32) v ∧
          exec (.div32X d r) s = .next (wrote s d (v.setWidth 64) 1)) ∧
      (∃ v : Word32, isRemainder ((dstVal s d).setWidth 32) ((srcVal s r).setWidth 32) v ∧
          exec (.mod32X d r) s = .next (wrote s d (v.setWidth 64) 1)) ∧
      (∃ v : Word32, isSignedQuotient ((dstVal s d).setWidth 32) ((srcVal s r).setWidth 32) v ∧
          exec (.sdiv32X d r) s = .next (wrote s d (v.setWidth 64) 1)) ∧
      (∃ v : Word32, isSignedRemainder ((dstVal s d).setWidth 32) ((srcVal s r).setWidth 32) v ∧
          exec (.smod32X d r) s = .next (wrote s d (v.setWidth 64) 1)))

/-- Division and remainder of class ALU64, all cases (decision D18 for the rounding of SDIV). -/
def Obligations.Alu64Division : Prop :=
  ∀ (s : State) (d r : Reg) (imm : Word32), d ≠ .r10 →
    (Readable s [d] →
      (∃ v : Word, isQuotient (dstVal s d) (imm.signExtend 64) v ∧ exec (.div64K d imm) s = .next (wrote s d v 1)) ∧
      (∃ v : Word, isRemainder (dstVal s d) (imm.signExtend 64) v ∧ exec (.mod64K d imm) s = .next (wrote s d v 1)) ∧
      (∃ v : Word, isSignedQuotient (dstVal s d) (imm.signExtend 64) v ∧
          exec (.sdiv64K d imm) s = .next (wrote s d v 1)) ∧
      (∃ v : Word, isSignedRemainder (dstVal s d) (imm.signExtend 64) v ∧
          exec (.smod64K d imm) s = .next (wrote s d v 1))) ∧
    (Readable s [d, r] →
      (∃ v : Word, isQuotient (dstVal s d) (srcVal s r) v ∧ exec (.div64X d r) s = .next (wrote s d v 1)) ∧
      (∃ v : Word, isRemainder (dstVal s d) (srcVal s r) v ∧ exec (.mod64X d r) s = .next (wrote s d v 1)) ∧
      (∃ v : Word, isSignedQuotient (dstVal s d) (srcVal s r) v ∧ exec (.sdiv64X d r) s = .next (wrote s d v 1)) ∧
      (∃ v : Word, isSignedRemainder (dstVal s d) (srcVal s r) v ∧ exec (.smod64X d r) s = .next (wrote s d v 1)))

/-- Arithmetic and logic of class ALU64 (41_alu64.md R140 to R169). -/
def Obligations.Alu64Arithmetic : Prop :=
  ∀ (s : State) (d r : Reg) (imm : Word32), d ≠ .r10 →
    (Readable s [d] →
      exec (.add64K d imm) s = .next (wrote s d (dstVal s d + imm.signExtend 64) 1) ∧
      exec (.sub64K d imm) s = .next (wrote s d (dstVal s d - imm.signExtend 64) 1) ∧
      exec (.or64K d imm) s = .next (wrote s d (dstVal s d ||| imm.signExtend 64) 1) ∧
      exec (.and64K d imm) s = .next (wrote s d (dstVal s d &&& imm.signExtend 64) 1) ∧
      exec (.xor64K d imm) s = .next (wrote s d (dstVal s d ^^^ imm.signExtend 64) 1) ∧
      exec (.mul64K d imm) s = .next (wrote s d (dstVal s d * imm.signExtend 64) 1)) ∧
    (Readable s [d, r] →
      exec (.add64X d r) s = .next (wrote s d (dstVal s d + srcVal s r) 1) ∧
      exec (.sub64X d r) s = .next (wrote s d (dstVal s d - srcVal s r) 1) ∧
      exec (.or64X d r) s = .next (wrote s d (dstVal s d ||| srcVal s r) 1) ∧
      exec (.and64X d r) s = .next (wrote s d (dstVal s d &&& srcVal s r) 1) ∧
      exec (.xor64X d r) s = .next (wrote s d (dstVal s d ^^^ srcVal s r) 1) ∧
      exec (.mul64X d r) s = .next (wrote s d (dstVal s d * srcVal s r) 1))

/-- Shifts, negation and moves of class ALU64 (41_alu64.md R140 to R176). -/
def Obligations.Alu64ShiftsAndMoves : Prop :=
  ∀ (s : State) (d r : Reg) (imm : Word32), d ≠ .r10 →
    exec (.mov64K d imm) s = .next (wrote s d (imm.signExtend 64) 1) ∧
    (Readable s [d] →
      exec (.lsh64K d imm) s = .next (wrote s d (dstVal s d <<< (imm.toNat % 64)) 1) ∧
      exec (.rsh64K d imm) s = .next (wrote s d (dstVal s d >>> (imm.toNat % 64)) 1) ∧
      exec (.arsh64K d imm) s = .next (wrote s d ((dstVal s d).sshiftRight (imm.toNat % 64)) 1) ∧
      exec (.neg64 d) s = .next (wrote s d (-(dstVal s d)) 1)) ∧
    (Readable s [d, r] →
      exec (.lsh64X d r) s = .next (wrote s d (dstVal s d <<< ((srcVal s r).toNat % 64)) 1) ∧
      exec (.rsh64X d r) s = .next (wrote s d (dstVal s d >>> ((srcVal s r).toNat % 64)) 1) ∧
      exec (.arsh64X d r) s = .next (wrote s d ((dstVal s d).sshiftRight ((srcVal s r).toNat % 64)) 1)) ∧
    (Readable s [r] →
      exec (.mov64X d r) s = .next (wrote s d (srcVal s r) 1) ∧
      exec (.movsx64From8 d r) s = .next (wrote s d (((srcVal s r).setWidth 8).signExtend 64) 1) ∧
      exec (.movsx64From16 d r) s = .next (wrote s d (((srcVal s r).setWidth 16).signExtend 64) 1) ∧
      exec (.movsx64From32 d r) s = .next (wrote s d (((srcVal s r).setWidth 32).signExtend 64) 1))

/-- Shift amounts in class ALU (40_alu32.md R102). -/
def Obligations.ShiftAmountsAlu32 : Prop :=
  ∀ (s : State) (d r : Reg) (imm : Word32), d ≠ .r10 →
    (Readable s [d] →
      (∃ t, exec (.lsh32K d imm) s = .next t ∧
        (t.x.get d).val.setWidth 32 = (dstVal s d).setWidth 32 <<< (imm.toNat % 32)) ∧
      (∃ t, exec (.rsh32K d imm) s = .next t ∧
        (t.x.get d).val.setWidth 32 = (dstVal s d).setWidth 32 >>> (imm.toNat % 32)) ∧
      (∃ t, exec (.arsh32K d imm) s = .next t ∧
        (t.x.get d).val.setWidth 32 = ((dstVal s d).setWidth 32).sshiftRight (imm.toNat % 32))) ∧
    (Readable s [d, r] →
      (∃ t, exec (.lsh32X d r) s = .next t ∧
        (t.x.get d).val.setWidth 32 = (dstVal s d).setWidth 32 <<< (((srcVal s r).setWidth 32).toNat % 32)) ∧
      (∃ t, exec (.rsh32X d r) s = .next t ∧
        (t.x.get d).val.setWidth 32 = (dstVal s d).setWidth 32 >>> (((srcVal s r).setWidth 32).toNat % 32)) ∧
      (∃ t, exec (.arsh32X d r) s = .next t ∧
        (t.x.get d).val.setWidth 32 = ((dstVal s d).setWidth 32).sshiftRight (((srcVal s r).setWidth 32).toNat % 32)))

/-- Shift amounts in class ALU64 (41_alu64.md R142). -/
def Obligations.ShiftAmountsAlu64 : Prop :=
  ∀ (s : State) (d r : Reg) (imm : Word32), d ≠ .r10 →
    (Readable s [d] →
      (∃ t, exec (.lsh64K d imm) s = .next t ∧
        (t.x.get d).val = dstVal s d <<< ((imm.signExtend 64).toNat % 64)) ∧
      (∃ t, exec (.rsh64K d imm) s = .next t ∧
        (t.x.get d).val = dstVal s d >>> ((imm.signExtend 64).toNat % 64)) ∧
      (∃ t, exec (.arsh64K d imm) s = .next t ∧
        (t.x.get d).val = (dstVal s d).sshiftRight ((imm.signExtend 64).toNat % 64))) ∧
    (Readable s [d, r] →
      (∃ t, exec (.lsh64X d r) s = .next t ∧
        (t.x.get d).val = dstVal s d <<< ((srcVal s r).toNat % 64)) ∧
      (∃ t, exec (.rsh64X d r) s = .next t ∧
        (t.x.get d).val = dstVal s d >>> ((srcVal s r).toNat % 64)) ∧
      (∃ t, exec (.arsh64X d r) s = .next t ∧
        (t.x.get d).val = (dstVal s d).sshiftRight ((srcVal s r).toNat % 64)))

/-- The byte swaps (42_byteswap.md R181 to R191; decision D17 for the upper bits). -/
def Obligations.ByteSwapResult : Prop :=
  ∀ (s : State) (d : Reg), d ≠ .r10 → Readable s [d] →
    (∃ v, exec (.le16 d) s = .next (wrote s d v 1) ∧ v.toNat < 2 ^ 16 ∧
      (s.cfg.hostEndian = .little → sameBytes 2 (dstVal s d) v) ∧
          (s.cfg.hostEndian = .big → reversedBytes 2 (dstVal s d) v)) ∧
    (∃ v, exec (.le32 d) s = .next (wrote s d v 1) ∧ v.toNat < 2 ^ 32 ∧
      (s.cfg.hostEndian = .little → sameBytes 4 (dstVal s d) v) ∧
          (s.cfg.hostEndian = .big → reversedBytes 4 (dstVal s d) v)) ∧
    (∃ v, exec (.le64 d) s = .next (wrote s d v 1) ∧ v.toNat < 2 ^ 64 ∧
      (s.cfg.hostEndian = .little → sameBytes 8 (dstVal s d) v) ∧
          (s.cfg.hostEndian = .big → reversedBytes 8 (dstVal s d) v)) ∧
    (∃ v, exec (.be16 d) s = .next (wrote s d v 1) ∧ v.toNat < 2 ^ 16 ∧
      (s.cfg.hostEndian = .little → reversedBytes 2 (dstVal s d) v) ∧
          (s.cfg.hostEndian = .big → sameBytes 2 (dstVal s d) v)) ∧
    (∃ v, exec (.be32 d) s = .next (wrote s d v 1) ∧ v.toNat < 2 ^ 32 ∧
      (s.cfg.hostEndian = .little → reversedBytes 4 (dstVal s d) v) ∧
          (s.cfg.hostEndian = .big → sameBytes 4 (dstVal s d) v)) ∧
    (∃ v, exec (.be64 d) s = .next (wrote s d v 1) ∧ v.toNat < 2 ^ 64 ∧
      (s.cfg.hostEndian = .little → reversedBytes 8 (dstVal s d) v) ∧
          (s.cfg.hostEndian = .big → sameBytes 8 (dstVal s d) v)) ∧
    (∃ v, exec (.bswap16 d) s = .next (wrote s d v 1) ∧ v.toNat < 2 ^ 16 ∧
      (s.cfg.hostEndian = .little → reversedBytes 2 (dstVal s d) v) ∧
          (s.cfg.hostEndian = .big → reversedBytes 2 (dstVal s d) v)) ∧
    (∃ v, exec (.bswap32 d) s = .next (wrote s d v 1) ∧ v.toNat < 2 ^ 32 ∧
      (s.cfg.hostEndian = .little → reversedBytes 4 (dstVal s d) v) ∧
          (s.cfg.hostEndian = .big → reversedBytes 4 (dstVal s d) v)) ∧
    (∃ v, exec (.bswap64 d) s = .next (wrote s d v 1) ∧ v.toNat < 2 ^ 64 ∧
      (s.cfg.hostEndian = .little → reversedBytes 8 (dstVal s d) v) ∧
          (s.cfg.hostEndian = .big → reversedBytes 8 (dstVal s d) v))

/-- The byte swaps and the host (42_byteswap.md R182). -/
def Obligations.ByteSwapDependsOnHost : Prop :=
  ∀ (s : State) (d : Reg), d ≠ .r10 → Readable s [d] →
    (∃ t, exec (.le16 d) s = .next t ∧
      (s.cfg.hostEndian = .little → sameBytes 2 (dstVal s d) (t.x.get d).val) ∧
      (s.cfg.hostEndian = .big → reversedBytes 2 (dstVal s d) (t.x.get d).val)) ∧
    (∃ t, exec (.le32 d) s = .next t ∧
      (s.cfg.hostEndian = .little → sameBytes 4 (dstVal s d) (t.x.get d).val) ∧
      (s.cfg.hostEndian = .big → reversedBytes 4 (dstVal s d) (t.x.get d).val)) ∧
    (∃ t, exec (.le64 d) s = .next t ∧
      (s.cfg.hostEndian = .little → sameBytes 8 (dstVal s d) (t.x.get d).val) ∧
      (s.cfg.hostEndian = .big → reversedBytes 8 (dstVal s d) (t.x.get d).val)) ∧
    (∃ t, exec (.be16 d) s = .next t ∧
      (s.cfg.hostEndian = .little → reversedBytes 2 (dstVal s d) (t.x.get d).val) ∧
      (s.cfg.hostEndian = .big → sameBytes 2 (dstVal s d) (t.x.get d).val)) ∧
    (∃ t, exec (.be32 d) s = .next t ∧
      (s.cfg.hostEndian = .little → reversedBytes 4 (dstVal s d) (t.x.get d).val) ∧
      (s.cfg.hostEndian = .big → sameBytes 4 (dstVal s d) (t.x.get d).val)) ∧
    (∃ t, exec (.be64 d) s = .next t ∧
      (s.cfg.hostEndian = .little → reversedBytes 8 (dstVal s d) (t.x.get d).val) ∧
      (s.cfg.hostEndian = .big → sameBytes 8 (dstVal s d) (t.x.get d).val)) ∧
    (∃ t, exec (.bswap16 d) s = .next t ∧
      (s.cfg.hostEndian = .little → reversedBytes 2 (dstVal s d) (t.x.get d).val) ∧
      (s.cfg.hostEndian = .big → reversedBytes 2 (dstVal s d) (t.x.get d).val)) ∧
    (∃ t, exec (.bswap32 d) s = .next t ∧
      (s.cfg.hostEndian = .little → reversedBytes 4 (dstVal s d) (t.x.get d).val) ∧
      (s.cfg.hostEndian = .big → reversedBytes 4 (dstVal s d) (t.x.get d).val)) ∧
    (∃ t, exec (.bswap64 d) s = .next t ∧
      (s.cfg.hostEndian = .little → reversedBytes 8 (dstVal s d) (t.x.get d).val) ∧
      (s.cfg.hostEndian = .big → reversedBytes 8 (dstVal s d) (t.x.get d).val))

/-- Unconditional jumps (43_jump.md R201, R203, R204; decision D7 for the integer pc). -/
def Obligations.JumpResult : Prop :=
  ∀ (s : State) (off : Word16) (imm : Word32),
    exec (.ja off) s = .next { s with pc := s.pc + 1 + off.toInt } ∧
    exec (.ja32 imm) s = .next { s with pc := s.pc + 1 + imm.toInt }

/-- The conditional jumps of class JMP (43_jump.md R201, R202). -/
def Obligations.ConditionalJump64 : Prop :=
  ∀ (s : State) (d r : Reg) (imm : Word32) (off : Word16),
    (Readable s [d] →
      exec (.jeq64K d imm off) s = .next (branched s off ((dstVal s d) == (imm.signExtend 64))) ∧
      exec (.jgt64K d imm off) s = .next (branched s off (decide ((imm.signExtend 64).toNat < (dstVal s d).toNat))) ∧
      exec (.jge64K d imm off) s = .next (branched s off (decide ((imm.signExtend 64).toNat ≤ (dstVal s d).toNat))) ∧
      exec (.jset64K d imm off) s = .next (branched s off (((dstVal s d) &&& (imm.signExtend 64)) != 0#64)) ∧
      exec (.jne64K d imm off) s = .next (branched s off ((dstVal s d) != (imm.signExtend 64))) ∧
      exec (.jsgt64K d imm off) s = .next (branched s off (decide ((imm.signExtend 64).toInt < (dstVal s d).toInt))) ∧
      exec (.jsge64K d imm off) s = .next (branched s off (decide ((imm.signExtend 64).toInt ≤ (dstVal s d).toInt))) ∧
      exec (.jlt64K d imm off) s = .next (branched s off (decide ((dstVal s d).toNat < (imm.signExtend 64).toNat))) ∧
      exec (.jle64K d imm off) s = .next (branched s off (decide ((dstVal s d).toNat ≤ (imm.signExtend 64).toNat))) ∧
      exec (.jslt64K d imm off) s = .next (branched s off (decide ((dstVal s d).toInt < (imm.signExtend 64).toInt))) ∧
      exec (.jsle64K d imm off) s =
        .next (branched s off (decide ((dstVal s d).toInt ≤ (imm.signExtend 64).toInt)))) ∧
    (Readable s [d, r] →
      exec (.jeq64X d r off) s = .next (branched s off ((dstVal s d) == (srcVal s r))) ∧
      exec (.jgt64X d r off) s = .next (branched s off (decide ((srcVal s r).toNat < (dstVal s d).toNat))) ∧
      exec (.jge64X d r off) s = .next (branched s off (decide ((srcVal s r).toNat ≤ (dstVal s d).toNat))) ∧
      exec (.jset64X d r off) s = .next (branched s off (((dstVal s d) &&& (srcVal s r)) != 0#64)) ∧
      exec (.jne64X d r off) s = .next (branched s off ((dstVal s d) != (srcVal s r))) ∧
      exec (.jsgt64X d r off) s = .next (branched s off (decide ((srcVal s r).toInt < (dstVal s d).toInt))) ∧
      exec (.jsge64X d r off) s = .next (branched s off (decide ((srcVal s r).toInt ≤ (dstVal s d).toInt))) ∧
      exec (.jlt64X d r off) s = .next (branched s off (decide ((dstVal s d).toNat < (srcVal s r).toNat))) ∧
      exec (.jle64X d r off) s = .next (branched s off (decide ((dstVal s d).toNat ≤ (srcVal s r).toNat))) ∧
      exec (.jslt64X d r off) s = .next (branched s off (decide ((dstVal s d).toInt < (srcVal s r).toInt))) ∧
      exec (.jsle64X d r off) s = .next (branched s off (decide ((dstVal s d).toInt ≤ (srcVal s r).toInt))))

/-- The conditional jumps of class JMP32 (43_jump.md R201, R202). -/
def Obligations.ConditionalJump32 : Prop :=
  ∀ (s : State) (d r : Reg) (imm : Word32) (off : Word16),
    (Readable s [d] →
      exec (.jeq32K d imm off) s = .next (branched s off (((dstVal s d).setWidth 32) == imm)) ∧
      exec (.jgt32K d imm off) s = .next (branched s off (decide (imm.toNat < ((dstVal s d).setWidth 32).toNat))) ∧
      exec (.jge32K d imm off) s = .next (branched s off (decide (imm.toNat ≤ ((dstVal s d).setWidth 32).toNat))) ∧
      exec (.jset32K d imm off) s = .next (branched s off ((((dstVal s d).setWidth 32) &&& imm) != 0#32)) ∧
      exec (.jne32K d imm off) s = .next (branched s off (((dstVal s d).setWidth 32) != imm)) ∧
      exec (.jsgt32K d imm off) s = .next (branched s off (decide (imm.toInt < ((dstVal s d).setWidth 32).toInt))) ∧
      exec (.jsge32K d imm off) s = .next (branched s off (decide (imm.toInt ≤ ((dstVal s d).setWidth 32).toInt))) ∧
      exec (.jlt32K d imm off) s = .next (branched s off (decide (((dstVal s d).setWidth 32).toNat < imm.toNat))) ∧
      exec (.jle32K d imm off) s = .next (branched s off (decide (((dstVal s d).setWidth 32).toNat ≤ imm.toNat))) ∧
      exec (.jslt32K d imm off) s = .next (branched s off (decide (((dstVal s d).setWidth 32).toInt < imm.toInt))) ∧
      exec (.jsle32K d imm off) s = .next (branched s off (decide (((dstVal s d).setWidth 32).toInt ≤ imm.toInt)))) ∧
    (Readable s [d, r] →
      exec (.jeq32X d r off) s = .next (branched s off (((dstVal s d).setWidth 32) == ((srcVal s r).setWidth 32))) ∧
      exec (.jgt32X d r off) s =
        .next (branched s off (decide (((srcVal s r).setWidth 32).toNat < ((dstVal s d).setWidth 32).toNat))) ∧
      exec (.jge32X d r off) s =
        .next (branched s off (decide (((srcVal s r).setWidth 32).toNat ≤ ((dstVal s d).setWidth 32).toNat))) ∧
      exec (.jset32X d r off) s =
        .next (branched s off ((((dstVal s d).setWidth 32) &&& ((srcVal s r).setWidth 32)) != 0#32)) ∧
      exec (.jne32X d r off) s = .next (branched s off (((dstVal s d).setWidth 32) != ((srcVal s r).setWidth 32))) ∧
      exec (.jsgt32X d r off) s =
        .next (branched s off (decide (((srcVal s r).setWidth 32).toInt < ((dstVal s d).setWidth 32).toInt))) ∧
      exec (.jsge32X d r off) s =
        .next (branched s off (decide (((srcVal s r).setWidth 32).toInt ≤ ((dstVal s d).setWidth 32).toInt))) ∧
      exec (.jlt32X d r off) s =
        .next (branched s off (decide (((dstVal s d).setWidth 32).toNat < ((srcVal s r).setWidth 32).toNat))) ∧
      exec (.jle32X d r off) s =
        .next (branched s off (decide (((dstVal s d).setWidth 32).toNat ≤ ((srcVal s r).setWidth 32).toNat))) ∧
      exec (.jslt32X d r off) s =
        .next (branched s off (decide (((dstVal s d).setWidth 32).toInt < ((srcVal s r).setWidth 32).toInt))) ∧
      exec (.jsle32X d r off) s =
        .next (branched s off (decide (((dstVal s d).setWidth 32).toInt ≤ ((srcVal s r).setWidth 32).toInt))))

/-- Zero-extending loads (44_load_store.md R261; decisions D13 to D15). -/
def Obligations.LoadResult : Prop :=
  ∀ (s : State) (d r : Reg) (off : Word16), d ≠ .r10 → Readable s [r] →
    (Accessible s .read (loadAddr s r off) 1 →
      exec (.ldxB d r off) s = .next (wrote s d (valueAt s (loadAddr s r off) 1) 1)) ∧
    (Accessible s .read (loadAddr s r off) 2 →
      exec (.ldxH d r off) s = .next (wrote s d (valueAt s (loadAddr s r off) 2) 1)) ∧
    (Accessible s .read (loadAddr s r off) 4 →
      exec (.ldxW d r off) s = .next (wrote s d (valueAt s (loadAddr s r off) 4) 1)) ∧
    (Accessible s .read (loadAddr s r off) 8 →
      exec (.ldxDw d r off) s = .next (wrote s d (valueAt s (loadAddr s r off) 8) 1))

/-- Sign-extending loads (44_load_store.md R262, R275 to R277); the address, the byte order and the checks of the
access are the spec's decisions D13 to D15. -/
def Obligations.SignExtendingLoads : Prop :=
  (∀ (s : State) (d r : Reg) (off : Word16), d ≠ .r10 → Readable s [r] →
    (Accessible s .read (loadAddr s r off) 1 →
      exec (.ldxsB d r off) s = .next (wrote s d (((valueAt s (loadAddr s r off) 1).setWidth 8).signExtend 64) 1)) ∧
    (Accessible s .read (loadAddr s r off) 2 →
      exec (.ldxsH d r off) s = .next (wrote s d (((valueAt s (loadAddr s r off) 2).setWidth 16).signExtend 64) 1)) ∧
    (Accessible s .read (loadAddr s r off) 4 →
      exec (.ldxsW d r off) s = .next (wrote s d (((valueAt s (loadAddr s r off) 4).setWidth 32).signExtend 64) 1))) ∧
  (∀ (strict : Bool) (f : Fields) (second : Option Fields), f.mode = 4 →
    f.cls = 2 ∨ f.cls = 3 ∨ (f.cls = 1 ∧ f.size = 3) →
    decodeFields strict f second = .error (.reservedOpcode f.opcode))

/-- Stores (44_load_store.md R261; decisions D13 to D16). -/
def Obligations.StoreResult : Prop :=
  ∀ (s : State) (d r : Reg) (imm : Word32) (off : Word16),
    (Readable s [d] →
      (Accessible s .write (storeAddr s d off) 1 →
        exec (.stB d imm off) s = .next (stored s (storeAddr s d off) 1 (imm.signExtend 64))) ∧
      (Accessible s .write (storeAddr s d off) 2 →
        exec (.stH d imm off) s = .next (stored s (storeAddr s d off) 2 (imm.signExtend 64))) ∧
      (Accessible s .write (storeAddr s d off) 4 →
        exec (.stW d imm off) s = .next (stored s (storeAddr s d off) 4 (imm.signExtend 64))) ∧
      (Accessible s .write (storeAddr s d off) 8 →
        exec (.stDw d imm off) s = .next (stored s (storeAddr s d off) 8 (imm.signExtend 64)))) ∧
    (Readable s [d, r] →
      (Accessible s .write (storeAddr s d off) 1 →
        exec (.stxB d r off) s = .next (stored s (storeAddr s d off) 1 (srcVal s r))) ∧
      (Accessible s .write (storeAddr s d off) 2 →
        exec (.stxH d r off) s = .next (stored s (storeAddr s d off) 2 (srcVal s r))) ∧
      (Accessible s .write (storeAddr s d off) 4 →
        exec (.stxW d r off) s = .next (stored s (storeAddr s d off) 4 (srcVal s r))) ∧
      (Accessible s .write (storeAddr s d off) 8 →
        exec (.stxDw d r off) s = .next (stored s (storeAddr s d off) 8 (srcVal s r))))

/-- What a store leaves in each byte (20_memory.md R45, decision D15). -/
def Obligations.StoredBytes : Prop :=
  ∀ (s : State) (addr v : Word) (n : Nat), n ∈ [1, 2, 4, 8] → addr.toNat + n ≤ 2 ^ 64 →
    (∀ k < n, s.cfg.hostEndian = .little →
      ownByte (stored s addr n v) (addr.toNat + k) = v.extractLsb' (8 * k) 8) ∧
    (∀ k < n, s.cfg.hostEndian = .big →
      ownByte (stored s addr n v) (addr.toNat + (n - 1 - k)) = v.extractLsb' (8 * k) 8) ∧
    (∀ a, ¬ inRange addr n a → byteAt (stored s addr n v) a = byteAt s a)

/-- What a read takes from each byte (20_memory.md R44, decision D15). -/
def Obligations.LoadedBytes : Prop :=
  ∀ (s : State) (addr : Word) (n : Nat), n ∈ [1, 2, 4, 8] → addr.toNat + n ≤ 2 ^ 64 →
    (∀ k < n, s.cfg.hostEndian = .little →
      (valueAt s addr n).extractLsb' (8 * k) 8 = byteAt s (addr.toNat + k)) ∧
    (∀ k < n, s.cfg.hostEndian = .big →
      (valueAt s addr n).extractLsb' (8 * k) 8 = byteAt s (addr.toNat + (n - 1 - k))) ∧
    (valueAt s addr n).toNat < 2 ^ (8 * n)

/-- Atomic operations without FETCH (45_atomic.md R281, 20_memory.md R52; decisions D13, D14). -/
def Obligations.AtomicResult : Prop :=
  ∀ (s : State) (d r : Reg) (off : Word16), Readable s [d, r] →
    (Accessible s .atomic (storeAddr s d off) 4 →
      exec (.atomic32Add d r off) s =
        .next (stored s (storeAddr s d off) 4
          (((valueAt s (storeAddr s d off) 4).setWidth 32 + (srcVal s r).setWidth 32).setWidth 64))) ∧
    (Accessible s .atomic (storeAddr s d off) 4 →
      exec (.atomic32Or d r off) s =
        .next (stored s (storeAddr s d off) 4
          (((valueAt s (storeAddr s d off) 4).setWidth 32 ||| (srcVal s r).setWidth 32).setWidth 64))) ∧
    (Accessible s .atomic (storeAddr s d off) 4 →
      exec (.atomic32And d r off) s =
        .next (stored s (storeAddr s d off) 4
          (((valueAt s (storeAddr s d off) 4).setWidth 32 &&& (srcVal s r).setWidth 32).setWidth 64))) ∧
    (Accessible s .atomic (storeAddr s d off) 4 →
      exec (.atomic32Xor d r off) s =
        .next (stored s (storeAddr s d off) 4
          (((valueAt s (storeAddr s d off) 4).setWidth 32 ^^^ (srcVal s r).setWidth 32).setWidth 64))) ∧
    (Accessible s .atomic (storeAddr s d off) 8 →
      exec (.atomic64Add d r off) s =
        .next (stored s (storeAddr s d off) 8 (valueAt s (storeAddr s d off) 8 + srcVal s r))) ∧
    (Accessible s .atomic (storeAddr s d off) 8 →
      exec (.atomic64Or d r off) s =
        .next (stored s (storeAddr s d off) 8 (valueAt s (storeAddr s d off) 8 ||| srcVal s r))) ∧
    (Accessible s .atomic (storeAddr s d off) 8 →
      exec (.atomic64And d r off) s =
        .next (stored s (storeAddr s d off) 8 (valueAt s (storeAddr s d off) 8 &&& srcVal s r))) ∧
    (Accessible s .atomic (storeAddr s d off) 8 →
      exec (.atomic64Xor d r off) s =
        .next (stored s (storeAddr s d off) 8 (valueAt s (storeAddr s d off) 8 ^^^ srcVal s r)))

/-- Atomic operations with FETCH (45_atomic.md R282, R283; decision D20). -/
def Obligations.AtomicFetchResult : Prop :=
  ∀ (s : State) (d r : Reg) (off : Word16), r ≠ .r10 → Readable s [d, r] →
    (Accessible s .atomic (storeAddr s d off) 4 →
      exec (.atomic32FetchAdd d r off) s =
        .next (wrote (storeAt s (storeAddr s d off) 4
          (((valueAt s (storeAddr s d off) 4).setWidth 32 + (srcVal s r).setWidth 32).setWidth 64))
              r (valueAt s (storeAddr s d off) 4) 1)) ∧
    (Accessible s .atomic (storeAddr s d off) 4 →
      exec (.atomic32FetchOr d r off) s =
        .next (wrote (storeAt s (storeAddr s d off) 4
          (((valueAt s (storeAddr s d off) 4).setWidth 32 ||| (srcVal s r).setWidth 32).setWidth 64))
              r (valueAt s (storeAddr s d off) 4) 1)) ∧
    (Accessible s .atomic (storeAddr s d off) 4 →
      exec (.atomic32FetchAnd d r off) s =
        .next (wrote (storeAt s (storeAddr s d off) 4
          (((valueAt s (storeAddr s d off) 4).setWidth 32 &&& (srcVal s r).setWidth 32).setWidth 64))
              r (valueAt s (storeAddr s d off) 4) 1)) ∧
    (Accessible s .atomic (storeAddr s d off) 4 →
      exec (.atomic32FetchXor d r off) s =
        .next (wrote (storeAt s (storeAddr s d off) 4
          (((valueAt s (storeAddr s d off) 4).setWidth 32 ^^^ (srcVal s r).setWidth 32).setWidth 64))
              r (valueAt s (storeAddr s d off) 4) 1)) ∧
    (Accessible s .atomic (storeAddr s d off) 8 →
      exec (.atomic64FetchAdd d r off) s =
        .next (wrote (storeAt s (storeAddr s d off) 8 (valueAt s (storeAddr s d off) 8 + srcVal s r))
          r (valueAt s (storeAddr s d off) 8) 1)) ∧
    (Accessible s .atomic (storeAddr s d off) 8 →
      exec (.atomic64FetchOr d r off) s =
        .next (wrote (storeAt s (storeAddr s d off) 8 (valueAt s (storeAddr s d off) 8 ||| srcVal s r))
          r (valueAt s (storeAddr s d off) 8) 1)) ∧
    (Accessible s .atomic (storeAddr s d off) 8 →
      exec (.atomic64FetchAnd d r off) s =
        .next (wrote (storeAt s (storeAddr s d off) 8 (valueAt s (storeAddr s d off) 8 &&& srcVal s r))
          r (valueAt s (storeAddr s d off) 8) 1)) ∧
    (Accessible s .atomic (storeAddr s d off) 8 →
      exec (.atomic64FetchXor d r off) s =
        .next (wrote (storeAt s (storeAddr s d off) 8 (valueAt s (storeAddr s d off) 8 ^^^ srcVal s r))
          r (valueAt s (storeAddr s d off) 8) 1)) ∧
    (Accessible s .atomic (storeAddr s d off) 4 →
      exec (.atomic32Xchg d r off) s =
        .next (wrote (storeAt s (storeAddr s d off) 4 (srcVal s r)) r (valueAt s (storeAddr s d off) 4) 1)) ∧
    (Accessible s .atomic (storeAddr s d off) 8 →
      exec (.atomic64Xchg d r off) s =
        .next (wrote (storeAt s (storeAddr s d off) 8 (srcVal s r)) r (valueAt s (storeAddr s d off) 8) 1))

/-- Compare and exchange (45_atomic.md R283; decision D20, log 22). The last clause says that writing the unchanged
value back leaves every private byte as it was. -/
def Obligations.CompareExchangeResult : Prop :=
  ∀ (s : State) (d r : Reg) (off : Word16), Readable s [d, r, .r0] →
    (Accessible s .atomic (storeAddr s d off) 4 →
      ((valueAt s (storeAddr s d off) 4).setWidth 32 = (r0Val s).setWidth 32 →
        exec (.atomic32Cmpxchg d r off) s = .next
          (wrote (storeAt s (storeAddr s d off) 4 (srcVal s r)) .r0 (valueAt s (storeAddr s d off) 4) 1)) ∧
      ((valueAt s (storeAddr s d off) 4).setWidth 32 ≠ (r0Val s).setWidth 32 →
        exec (.atomic32Cmpxchg d r off) s = .next
          (wrote (storeAt s (storeAddr s d off) 4 (valueAt s (storeAddr s d off) 4)) .r0
            (valueAt s (storeAddr s d off) 4) 1))) ∧
    (Accessible s .atomic (storeAddr s d off) 8 →
      (valueAt s (storeAddr s d off) 8 = r0Val s →
        exec (.atomic64Cmpxchg d r off) s = .next
          (wrote (storeAt s (storeAddr s d off) 8 (srcVal s r)) .r0 (valueAt s (storeAddr s d off) 8) 1)) ∧
      (valueAt s (storeAddr s d off) 8 ≠ r0Val s →
        exec (.atomic64Cmpxchg d r off) s = .next
          (wrote (storeAt s (storeAddr s d off) 8 (valueAt s (storeAddr s d off) 8)) .r0
            (valueAt s (storeAddr s d off) 8) 1))) ∧
    (∀ (addr : Word) (n : Nat), n ∈ [4, 8] → addr.toNat + n ≤ 2 ^ 64 → privateRange s addr n →
      ∀ a, byteAt (storeAt s addr n (valueAt s addr n)) a = byteAt s a)

/-- The 64-bit immediate instructions (46_imm64.md R306 to R316; decisions D19, D21; log 11). -/
def Obligations.Imm64Result : Prop :=
  ∀ (s : State) (d : Reg) (imm next : Word32), d ≠ .r10 →
    exec (.ldImm64 d imm next) s = .next (wrote s d (next ++ imm) 2) ∧
    (∀ a, lookup s.cfg.mapsByFd imm = some a → exec (.ldMapFd d imm) s = .next (wrote s d a 2)) ∧
    (∀ m a, lookup s.cfg.mapsByFd imm = some m → lookup s.cfg.mapVals m = some a →
      exec (.ldMapValFd d imm next) s = .next (wrote s d (a + next.setWidth 64) 2)) ∧
    (∀ a, lookup s.cfg.vars imm = some a → exec (.ldVarAddr d imm) s = .next (wrote s d a 2)) ∧
    (∀ a, 0 ≤ s.pc + 1 + imm.toInt → s.pc + 1 + imm.toInt < s.prog.length →
      lookup s.cfg.codeAddrs (s.pc + 1 + imm.toInt).toNat = some a →
      exec (.ldCodeAddr d imm) s = .next (wrote s d a 2)) ∧
    (∀ a, lookup s.cfg.mapsByIdx imm = some a → exec (.ldMapIdx d imm) s = .next (wrote s d a 2)) ∧
    (∀ m a, lookup s.cfg.mapsByIdx imm = some m → lookup s.cfg.mapVals m = some a →
      exec (.ldMapValIdx d imm next) s = .next (wrote s d (a + next.setWidth 64) 2))

/-- Undefined platform objects (46_imm64.md R307, decision D21). -/
def Obligations.UnknownObjects : Prop :=
  ∀ (s : State) (d : Reg) (imm next : Word32), d ≠ .r10 →
    (lookup s.cfg.mapsByFd imm = none →
      exec (.ldMapFd d imm) s = .next { s with status := .faulted (.unknownObject s.pc .mapFd imm) } ∧
      exec (.ldMapValFd d imm next) s = .next { s with status := .faulted (.unknownObject s.pc .mapFd imm) }) ∧
    (∀ m, lookup s.cfg.mapsByFd imm = some m → lookup s.cfg.mapVals m = none →
      exec (.ldMapValFd d imm next) s = .next { s with status := .faulted (.unknownObject s.pc .mapFd imm) }) ∧
    (lookup s.cfg.vars imm = none →
      exec (.ldVarAddr d imm) s = .next { s with status := .faulted (.unknownObject s.pc .variableId imm) }) ∧
    (s.pc + 1 + imm.toInt < 0 ∨ (s.prog.length : Int) ≤ s.pc + 1 + imm.toInt ∨
        lookup s.cfg.codeAddrs (s.pc + 1 + imm.toInt).toNat = none →
      exec (.ldCodeAddr d imm) s = .next { s with status := .faulted (.unknownObject s.pc .code imm) }) ∧
    (lookup s.cfg.mapsByIdx imm = none →
      exec (.ldMapIdx d imm) s = .next { s with status := .faulted (.unknownObject s.pc .mapIndex imm) } ∧
      exec (.ldMapValIdx d imm next) s = .next { s with status := .faulted (.unknownObject s.pc .mapIndex imm) }) ∧
    (∀ m, lookup s.cfg.mapsByIdx imm = some m → lookup s.cfg.mapVals m = none →
      exec (.ldMapValIdx d imm next) s = .next { s with status := .faulted (.unknownObject s.pc .mapIndex imm) })

/-- The packet instructions stop by name (47_legacy_packet.md R331, decision D22, log 19). -/
def Obligations.PacketInstructionsRaiseUnmodelled : Prop :=
  ∀ (s : State) (r : Reg) (imm : Word32),
    exec (.ldAbsW imm) s = .next { s with status := .faulted (.unmodelled s.pc) } ∧
    exec (.ldAbsH imm) s = .next { s with status := .faulted (.unmodelled s.pc) } ∧
    exec (.ldAbsB imm) s = .next { s with status := .faulted (.unmodelled s.pc) } ∧
    exec (.ldIndW r imm) s = .next { s with status := .faulted (.unmodelled s.pc) } ∧
    exec (.ldIndH r imm) s = .next { s with status := .faulted (.unmodelled s.pc) } ∧
    exec (.ldIndB r imm) s = .next { s with status := .faulted (.unmodelled s.pc) }

/-- A write to x[10] is refused first (10_state.md R23, 60_exceptions.md R342; decisions D5, D25; log 18). -/
def Obligations.FramePointerWriteRaises : Prop :=
  ∀ (s : State) (i : Instr), target i = some .r10 →
    exec i s = .next { s with status := .faulted (.framePointerWrite s.pc) }

/-- Reading an unwritten register (10_state.md R24, first reading; decisions D6, D25; log 5). -/
def Obligations.UnwrittenReadRaises : Prop :=
  ∀ (s : State) (i : Instr) (r : Reg), s.cfg.unwrittenRaises = true → target i ≠ some .r10 →
    r ∈ sources i → (s.x.get r).written = false →
    (∀ q ∈ sources i, (s.x.get q).written = false → r.num.toNat ≤ q.num.toNat) →
    exec i s = .next { s with status := .faulted (.unwrittenRegister s.pc r) }

/-- Misaligned accesses (20_memory.md R47, R52; decision D14). -/
def Obligations.MisalignedAccessRaises : Prop :=
  ∀ (s : State) (i : Instr) (kind : AccessKind) (addr : Word) (n : Nat), reachesAccess s i →
    access s i = some (kind, addr, n) → ¬ aligned s kind addr n →
    exec i s = .next { s with status := .faulted (.misaligned addr n) }

/-- Accesses the platform does not admit (20_memory.md R46, decision D14). -/
def Obligations.RefusedAccessRaises : Prop :=
  ∀ (s : State) (i : Instr) (kind : AccessKind) (addr : Word) (n : Nat), reachesAccess s i →
    access s i = some (kind, addr, n) → aligned s kind addr n → memAdmit s addr n kind = false →
    exec i s = .next { s with status := .faulted (.memoryAccess addr n kind) }

/-- MemAdmit (20_memory.md R46, decision D14), in the model's form of regions (log 9). -/
def Obligations.AdmissionMeansOneRegion : Prop :=
  ∀ (s : State) (addr : Word) (n : Nat) (kind : AccessKind), 0 < n →
    (memAdmit s addr n kind = true ↔
      addr.toNat + n ≤ 2 ^ 64 ∧
        ∃ g ∈ s.cfg.regions, g.permits kind = true ∧ n ∈ g.widths ∧ g.inForce s.callstack.length = true ∧
          ∀ a, inRange addr n a → g.holds a = true)

/-- No other register is touched (10_state.md R25); x[10] is read-only (R23, decision D5). -/
def Obligations.RegisterFrame : Prop :=
  ∀ (s t : State) (i : Instr), exec i s = .next t →
    (callsOrReturns i = false →
      (∀ r, target i ≠ some r → t.x.get r = s.x.get r) ∧ t.callstack = s.callstack ∧ t.prog = s.prog ∧
        t.cfg = s.cfg) ∧
    ((∀ imm, i ≠ .callLocal imm) ∧ i ≠ .exit → t.x.r10 = s.x.r10)

/-- Bytes outside the store are unchanged (20_memory.md R40, R45). -/
def Obligations.MemoryFrame : Prop :=
  ∀ (s t : State) (i : Instr), exec i s = .next t → callsHelper i = false →
    ∀ a, (∀ kind addr n, access s i = some (kind, addr, n) → kind ≠ .read → ¬ inRange addr n a) →
      byteAt t a = byteAt s a

/-- No register is read that the instruction does not name (10_state.md R25). -/
def Obligations.OtherRegistersDoNotMatter : Prop :=
  ∀ (s t : State) (i : Instr) (r : Reg) (c : Cell), callsOrReturns i = false → r ∉ sources i →
    exec i s = .next t →
    ∃ c', exec i { s with x := s.x.set r c } = .next { t with x := t.x.set r c' } ∧
      (c' = c ∨ (target i = some r ∧ c' = t.x.get r))

/-- Protection of memory by MemAdmit (20_memory.md R46, decision D14, log 9). -/
def Obligations.OnlyAdmittedBytesChange : Prop :=
  ∀ (s t : State) (i : Instr) (a : Nat), exec i s = .next t → callsHelper i = false →
    byteAt t a ≠ byteAt s a → reachable s .write a ∨ reachable s .atomic a

/-- A program cannot learn what lies in bytes MemAdmit closes to it (20_memory.md R46, decision D14, log 9). -/
def Obligations.UnadmittedBytesDoNotMatter : Prop :=
  ∀ (s t : State) (m : Memory),
    (∀ i, fetch s = .ok i → callsHelper i = false) →
    (∀ a, reachable s .read a ∨ reachable s .atomic a → m.get? a = s.mem.get? a) →
    step s = .next t →
    ∃ m' : Memory, step { s with mem := m } = .next { t with mem := m' } ∧
      ∀ a, (m.get? a = s.mem.get? a → m'.get? a = t.mem.get? a) ∧
        (m.get? a ≠ s.mem.get? a →
          m'.get? a = t.mem.get? a ∨ (m'.get? a = m.get? a ∧ t.mem.get? a = s.mem.get? a))

/-- A load returns the latest earlier store of the instance (20_memory.md R53, decision D23). -/
def Obligations.StoreThenLoad : Prop :=
  ∀ (s : State) (d r q : Reg) (off : Word16), s.status = .running → (s.x.get d).written = true → q ≠ .r10 →
    (∀ t, exec (.stxB d r off) s = .next t → t.status = .running →
      memAdmit s (storeAddr s d off) 1 .read = true → privateRange s (storeAddr s d off) 1 →
      exec (.ldxB q d off) t = .next (wrote t q (((srcVal s r).setWidth 8).setWidth 64) 1)) ∧
    (∀ t, exec (.stxH d r off) s = .next t → t.status = .running →
      memAdmit s (storeAddr s d off) 2 .read = true → privateRange s (storeAddr s d off) 2 →
      exec (.ldxH q d off) t = .next (wrote t q (((srcVal s r).setWidth 16).setWidth 64) 1)) ∧
    (∀ t, exec (.stxW d r off) s = .next t → t.status = .running →
      memAdmit s (storeAddr s d off) 4 .read = true → privateRange s (storeAddr s d off) 4 →
      exec (.ldxW q d off) t = .next (wrote t q (((srcVal s r).setWidth 32).setWidth 64) 1)) ∧
    (∀ t, exec (.stxDw d r off) s = .next t → t.status = .running →
      memAdmit s (storeAddr s d off) 8 .read = true → privateRange s (storeAddr s d off) 8 →
      exec (.ldxDw q d off) t = .next (wrote t q (((srcVal s r).setWidth 64).setWidth 64) 1))

/-- Mixed-width accesses (20_memory.md R59, which the spec marks derived). -/
def Obligations.MixedWidthAccess : Prop :=
  ∀ (s t : State) (a : Word), a.toNat + 8 ≤ 2 ^ 64 → privateRange s a 8 →
    t = storeAt s a 8 0x1122334455667788#64 →
    (s.cfg.hostEndian = .little →
      valueAt t a 1 = 0x88#64 ∧ valueAt t a 2 = 0x7788#64 ∧ valueAt t a 4 = 0x55667788#64 ∧
        valueAt t (a + 4#64) 4 = 0x11223344#64) ∧
    (s.cfg.hostEndian = .big →
      valueAt t a 1 = 0x11#64 ∧ valueAt t a 2 = 0x1122#64 ∧ valueAt t a 4 = 0x11223344#64 ∧
        valueAt t (a + 4#64) 4 = 0x55667788#64)

/-- A program never learns what lies in bytes MemAdmit closes to it (20_memory.md R46, decision D14, log 9): the
relation holds again after each step, at whatever call depth. -/
def Obligations.StepsKeepAgreementOnOpenBytes : Prop :=
  ∀ s s' t : State, agreeOnOpenBytes s s' → (∀ i, fetch s = .ok i → callsHelper i = false) →
    step s = .next t → ∃ t', step s' = .next t' ∧ agreeOnOpenBytes t t'
end

