-- ==== Sys2Proof/Laws/Admission.lean ====
section
/-! SUPPORT. `MemAdmit` as regions (20_memory.md R46, log 9): what an access that is admitted needs, and that regions
of one access each write down every admission of addresses, widths and kinds. -/

namespace Sys2Proof

/-- The region that admits one access alone: this address, this width, this kind. -/
def Region.exactly (addr : Word) (n : Nat) (kind : AccessKind) : Region :=
  { base := addr, size := n, read := kind == .read, write := kind == .write, atomic := kind == .atomic
    widths := [n], shared := false, frame := none }

@[simp] theorem Region.exactly_permits (addr : Word) (n : Nat) (kind k : AccessKind) :
    (Region.exactly addr n kind).permits k = (k == kind) := by
  cases k <;> cases kind <;> rfl

end Sys2Proof

namespace Sys2Proof.Machine

theorem memAdmit_iff (s : State) (addr : Word) (n : Nat) (kind : AccessKind) :
    memAdmit s addr n kind = true ↔
      addr.toNat + n ≤ 2 ^ 64 ∧ ∃ r ∈ s.cfg.regions, r.permits kind = true ∧ n ∈ r.widths ∧
        r.inForce s.callstack.length = true ∧ r.base.toNat ≤ addr.toNat ∧
        addr.toNat + n ≤ r.base.toNat + r.size := by
  simp [memAdmit, and_assoc]

/-- Every byte of an admitted access is reachable by accesses of its kind. -/
theorem reachable_of_memAdmit {s : State} {addr : Word} {n a : Nat} {kind : AccessKind}
    (h : memAdmit s addr n kind = true) (ha : inRange addr n a) : reachable s kind a := by
  obtain ⟨-, r, hr, hk, -, hf, hl, hu⟩ := (memAdmit_iff s addr n kind).1 h
  obtain ⟨h1, h2⟩ := ha
  exact ⟨r, hr, hk, hf, by simp only [Region.holds, Bool.and_eq_true, decide_eq_true_eq]; omega⟩

/-- A list of accesses, written as one region each, admits those accesses and no other. -/
theorem memAdmit_exactly (s : State) (l : List (Word × Nat × AccessKind)) (addr : Word) (n : Nat)
    (kind : AccessKind) (h : s.cfg.regions = l.map fun a => Region.exactly a.1 a.2.1 a.2.2) :
    memAdmit s addr n kind = true ↔ addr.toNat + n ≤ 2 ^ 64 ∧ (addr, n, kind) ∈ l := by
  rw [memAdmit_iff, h]
  refine and_congr_right fun _ => ?_
  simp only [List.mem_map]
  constructor
  · rintro ⟨_, ⟨⟨a, m, k⟩, hl, rfl⟩, hk, hm, -, hle, hge⟩
    simp only [Region.exactly_permits, beq_iff_eq] at hk
    simp only [Region.exactly, List.mem_singleton] at hm hle hge
    subst hk hm
    have : a = addr := BitVec.eq_of_toNat_eq (by omega)
    exact this ▸ hl
  · intro hl
    exact ⟨_, ⟨_, hl, rfl⟩, by simp, by simp [Region.exactly], rfl, Nat.le_refl _, Nat.le_refl _⟩

/-- Every `MemAdmit` of addresses, widths and kinds has a list of regions that admits what it admits: the form of
`Platform.regions` shuts no such parameter out (20_memory.md R46). -/
theorem regions_express (allowed : Word → Nat → AccessKind → Bool) :
    ∃ rs : List Region, ∀ s : State, s.cfg.regions = rs → ∀ (addr : Word) (n : Nat) (kind : AccessKind),
      n ∈ [1, 2, 4, 8] → addr.toNat + n ≤ 2 ^ 64 → memAdmit s addr n kind = allowed addr n kind := by
  let all : List (Word × Nat × AccessKind) :=
    (List.range (2 ^ 64)).flatMap fun a => [1, 2, 4, 8].flatMap fun n =>
      [.read, .write, .atomic].map fun k => (BitVec.ofNat 64 a, n, k)
  refine ⟨(all.filter fun a => allowed a.1 a.2.1 a.2.2).map fun a => Region.exactly a.1 a.2.1 a.2.2, ?_⟩
  intro s hs addr n kind hn hw
  have mem : (addr, n, kind) ∈ all := by
    refine List.mem_flatMap.2 ⟨addr.toNat, List.mem_range.2 addr.isLt, List.mem_flatMap.2 ⟨n, hn, ?_⟩⟩
    refine List.mem_map.2 ⟨kind, by cases kind <;> decide, by simp⟩
  refine Bool.eq_iff_iff.2 ?_
  rw [memAdmit_exactly s _ addr n kind hs, List.mem_filter]
  exact ⟨fun h => h.2.2, fun h => ⟨hw, mem, h⟩⟩

end Sys2Proof.Machine
end

