-- ==== Sys2Proof/Laws/Bytes.lean ====
section
/-! SUPPORT. Byte order: the reversals undo themselves, and a value comes back from its bytes. -/

namespace Sys2Proof

@[simp] theorem bswap16_bswap16 (v : BitVec 16) : bswap16 (bswap16 v) = v := by
  apply BitVec.eq_of_getLsbD_eq
  intro i hi
  simp only [bswap16, BitVec.getLsbD_append, BitVec.getLsbD_extractLsb']
  grind

@[simp] theorem bswap32_bswap32 (v : Word32) : bswap32 (bswap32 v) = v := by
  apply BitVec.eq_of_getLsbD_eq
  intro i hi
  simp only [bswap32, BitVec.getLsbD_append, BitVec.getLsbD_extractLsb']
  grind

@[simp] theorem leBytes_length (n : Nat) (v : Word) : (leBytes n v).length = n := by
  induction n generalizing v with
  | zero => rfl
  | succ n ih => simp [leBytes, ih]

@[simp] theorem hostBytes_length (e : Endian) (n : Nat) (v : Word) : (hostBytes e n v).length = n := by
  cases e <;> simp [hostBytes]

/-- Bit `i` of the value read back from `n` bytes is bit `i` of the value, below bit `8n`. -/
theorem getLsbD_leValue_leBytes (n : Nat) (v : Word) (i : Nat) (hi : i < 64) :
    (leValue (leBytes n v)).getLsbD i = (decide (i < 8 * n) && v.getLsbD i) := by
  induction n generalizing v i with
  | zero => simp [leBytes, leValue]
  | succ n ih =>
    simp only [leBytes, leValue, BitVec.getLsbD_or, BitVec.getLsbD_setWidth, BitVec.getLsbD_shiftLeft]
    by_cases h : i < 8
    · simp [h, hi]; omega
    · have := ih (v >>> 8) (i - 8) (by omega)
      rw [this]
      simp only [BitVec.getLsbD_ushiftRight, h, hi]
      have e : 8 + (i - 8) = i := by omega
      have e2 : (i - 8 < 8 * n) = (i < 8 * (n + 1)) := by simp; omega
      simp [e, e2]

/-- The value of the bytes of a value, in either host order: its low `8n` bits (20_memory.md R44, R45). -/
theorem toNat_hostValue_hostBytes (e : Endian) (n : Nat) (v : Word) :
    (hostValue e (hostBytes e n v)).toNat = v.toNat % 2 ^ (8 * n) := by
  have h : (leValue (leBytes n v)).toNat = v.toNat % 2 ^ (8 * n) := by
    apply Nat.eq_of_testBit_eq
    intro i
    rw [Nat.testBit_mod_two_pow]
    by_cases hi : i < 64
    · have := getLsbD_leValue_leBytes n v i hi
      simpa [BitVec.getLsbD] using this
    · have h1 : (leValue (leBytes n v)).toNat.testBit i = false :=
        BitVec.getLsbD_of_ge _ i (by omega)
      have h2 : v.toNat.testBit i = false := BitVec.getLsbD_of_ge _ i (by omega)
      simp [h1, h2]
  cases e <;> simp [hostValue, hostBytes, h]

end Sys2Proof
end

