-- ==== Sys2Proof/Laws/Decode.lean ====
section
/-! SUPPORT. Decoding: registers, slots and fields come back from their encodings, and the decoder's forms on
encoded fields. -/

namespace Sys2Proof

@[simp] theorem decodeReg_num (r : Reg) : decodeReg r.num = .ok r := by cases r <;> rfl

theorem num_of_decodeReg {n : BitVec 4} {r : Reg} (h : decodeReg n = .ok r) : r.num = n := by
  unfold decodeReg at h
  split at h <;> cases h <;> apply BitVec.eq_of_toNat_eq <;> simp_all [Reg.num]

@[simp] theorem Fields.ofSlot_toSlot (e : Endian) (f : Fields) : Fields.ofSlot e (f.toSlot e) = f := by
  obtain ⟨op, d, s, off, imm⟩ := f
  cases e <;> simp only [Fields.ofSlot, Fields.toSlot, Fields.mk.injEq]
  · refine ⟨?_, ?_, ?_, ?_, ?_⟩ <;> (apply BitVec.eq_of_getLsbD_eq; intro i hi) <;>
      simp only [BitVec.getLsbD_append, BitVec.getLsbD_extractLsb'] <;> grind
  · have h1 : ∀ w : Slot, w = bswap32 imm ++ bswap16 off ++ d ++ s ++ op →
        w.extractLsb' 16 16 = bswap16 off ∧ w.extractLsb' 32 32 = bswap32 imm := by
      rintro w rfl
      constructor <;> (apply BitVec.eq_of_getLsbD_eq; intro i hi) <;>
        simp only [BitVec.getLsbD_append, BitVec.getLsbD_extractLsb'] <;> grind
    obtain ⟨ho, hi⟩ := h1 _ rfl
    rw [ho, hi, bswap16_bswap16, bswap32_bswap32]
    refine ⟨?_, ?_, ?_, rfl, rfl⟩ <;> (apply BitVec.eq_of_getLsbD_eq; intro i hi) <;>
      simp only [BitVec.getLsbD_append, BitVec.getLsbD_extractLsb'] <;> grind

@[simp] theorem Fields.toSlot_ofSlot (e : Endian) (w : Slot) : (Fields.ofSlot e w).toSlot e = w := by
  cases e <;> simp only [Fields.ofSlot, Fields.toSlot, bswap32_bswap32, bswap16_bswap16] <;>
    (apply BitVec.eq_of_getLsbD_eq; intro i hi) <;>
    simp only [BitVec.getLsbD_append, BitVec.getLsbD_extractLsb'] <;> grind

/-- Byte 0 of a slot is the opcode on both hosts (30_encoding.md R64). -/
@[simp] theorem Fields.ofSlot_opcode (e : Endian) (w : Slot) : (Fields.ofSlot e w).opcode = w.extractLsb' 0 8 := by
  cases e <;> rfl

@[simp] theorem isWide_toSlot (e : Endian) (f : Fields) : isWide (f.toSlot e) = (f.opcode == wideOpcode) := by
  rw [isWide, ← Fields.ofSlot_opcode e, Fields.ofSlot_toSlot]

@[simp] theorem takeSlot_slotBytes (w : Slot) (rest : List Byte) :
    takeSlot (slotBytes w ++ rest) = some (w, rest) := by
  have : slotOfBytes (w.extractLsb' 0 8) (w.extractLsb' 8 8) (w.extractLsb' 16 8) (w.extractLsb' 24 8)
      (w.extractLsb' 32 8) (w.extractLsb' 40 8) (w.extractLsb' 48 8) (w.extractLsb' 56 8) = w := by
    apply BitVec.eq_of_getLsbD_eq
    intro i hi
    simp only [slotOfBytes, BitVec.getLsbD_append, BitVec.getLsbD_extractLsb']
    grind
  simp [takeSlot, slotBytes, this]

/-! ### The parts of an opcode byte -/

theorem cls_of (op : BitVec 8) (k : Nat) (h : (op.extractLsb' 0 3).toNat = k) (d s : BitVec 4) (off : Word16)
    (imm : Word32) : Fields.cls { opcode := op, dst := d, src := s, offset := off, imm := imm } = k := h

theorem code_of (op : BitVec 8) (k : Nat) (h : (op.extractLsb' 4 4).toNat = k) (d s : BitVec 4) (off : Word16)
    (imm : Word32) : Fields.code { opcode := op, dst := d, src := s, offset := off, imm := imm } = k := h

theorem sourceX_of (op : BitVec 8) (b : Bool) (h : op.getLsbD 3 = b) (d s : BitVec 4) (off : Word16)
    (imm : Word32) : Fields.sourceX { opcode := op, dst := d, src := s, offset := off, imm := imm } = b := h

theorem mode_of (op : BitVec 8) (k : Nat) (h : (op.extractLsb' 5 3).toNat = k) (d s : BitVec 4) (off : Word16)
    (imm : Word32) : Fields.mode { opcode := op, dst := d, src := s, offset := off, imm := imm } = k := h

theorem size_of (op : BitVec 8) (k : Nat) (h : (op.extractLsb' 3 2).toNat = k) (d s : BitVec 4) (off : Word16)
    (imm : Word32) : Fields.size { opcode := op, dst := d, src := s, offset := off, imm := imm } = k := h

/-! ### Cleared fields -/

@[simp] theorem Fields.cleared_opcode (f : Fields) : f.cleared.opcode = f.opcode := rfl
@[simp] theorem Fields.cleared_cls (f : Fields) : f.cleared.cls = f.cls := rfl
@[simp] theorem Fields.cleared_code (f : Fields) : f.cleared.code = f.code := rfl
@[simp] theorem Fields.cleared_sourceX (f : Fields) : f.cleared.sourceX = f.sourceX := rfl
@[simp] theorem Fields.cleared_mode (f : Fields) : f.cleared.mode = f.mode := rfl
@[simp] theorem Fields.cleared_size (f : Fields) : f.cleared.size = f.size := rfl

theorem Fields.clearedSecond_of_basic {f : Fields} (g : Fields) (h : f.opcode ≠ wideOpcode) :
    f.clearedSecond g = g := if_neg h

theorem Fields.clearedSecond_reservedZero {f : Fields} (g : Fields) (h : f.opcode = wideOpcode) :
    (f.clearedSecond g).reservedZero = true := by
  rw [Fields.clearedSecond, if_pos h]; rfl

/-! ### The forms, on encoded fields -/

theorem formK_encoded (strict : Bool) (op : BitVec 8) (d : Reg) (off : Word16) (imm : Word32)
    (k : Reg → Word32 → Instr) :
    formK strict { opcode := op, dst := d.num, src := 0#4, offset := off, imm := imm } k = .ok (k d imm) := by
  simp [formK, needUnused, withDst]

theorem formX_encoded (strict : Bool) (op : BitVec 8) (d s : Reg) (off : Word16) (x : Reg → Reg → Instr) :
    formX strict { opcode := op, dst := d.num, src := s.num, offset := off, imm := 0#32 } x = .ok (x d s) := by
  simp [formX, needUnused, withDst, withSrc]

theorem withDst_encoded (op : BitVec 8) (d : Reg) (src : BitVec 4) (off : Word16) (imm : Word32)
    (k : Reg → Decoded) :
    withDst { opcode := op, dst := d.num, src := src, offset := off, imm := imm } k = k d := by
  simp [withDst]

theorem withSrc_encoded (op : BitVec 8) (s : Reg) (dst : BitVec 4) (off : Word16) (imm : Word32)
    (k : Reg → Decoded) :
    withSrc { opcode := op, dst := dst, src := s.num, offset := off, imm := imm } k = k s := by
  simp [withSrc]

theorem withDst_withSrc_encoded (op : BitVec 8) (d s : Reg) (off : Word16) (imm : Word32)
    (k : Reg → Reg → Decoded) :
    (withDst { opcode := op, dst := d.num, src := s.num, offset := off, imm := imm } fun a =>
      withSrc { opcode := op, dst := d.num, src := s.num, offset := off, imm := imm } fun b => k a b) = k d s := by
  simp [withDst, withSrc]

theorem needUnused_true (strict : Bool) (k : Decoded) : needUnused strict true k = k := by
  simp [needUnused]

end Sys2Proof
end

