-- ==== Sys2Proof/Laws/Memory.lean ====
section
/-! SUPPORT. Data memory: what a byte reads after a write, and that every memory operation keeps the canonical
form. -/

namespace Sys2Proof.Machine

/-! ### One byte -/

theorem Memory.get?_put_self (m : Memory) (a : Nat) (b : Byte) : (m.put a b).get? a = some b := by
  induction m with
  | nil => simp [Memory.put, Memory.get?]
  | cons c rest ih =>
    simp only [Memory.put]
    split
    · simp [Memory.get?]
    · split
      · simp [Memory.get?]
      · have h : ¬ c.1 = a := by omega
        simp [Memory.get?, h, ih]

theorem Memory.get?_put_of_ne (m : Memory) {a q : Nat} (b : Byte) (h : q ≠ a) :
    (m.put a b).get? q = m.get? q := by
  induction m with
  | nil => simp [Memory.put, Memory.get?, Ne.symm h]
  | cons c rest ih =>
    simp only [Memory.put]
    split
    · simp [Memory.get?, Ne.symm h]
    · split
      · rename_i _ e
        subst e
        simp [Memory.get?, Ne.symm h]
      · simp [Memory.get?, ih]

/-! ### The canonical form -/

/-- Every address of the memory is above `a`. -/
def Memory.above (m : Memory) (a : Nat) : Prop := ∀ c ∈ m, a < c.1

theorem Memory.wf_cons (c : Host.Cell) (m : Memory) :
    Memory.wf (c :: m) = true ↔ c.1 < 2 ^ 64 ∧ Memory.above m c.1 ∧ Memory.wf m = true := by
  induction m generalizing c with
  | nil => simp [Memory.wf, Memory.above]
  | cons d rest ih =>
    simp only [Memory.wf, Bool.and_eq_true, decide_eq_true_eq]
    constructor
    · rintro ⟨h1, h2⟩
      have h3 := (ih d).1 h2
      refine ⟨by omega, ?_, h2⟩
      intro e he
      rcases List.mem_cons.1 he with rfl | he
      · exact h1
      · exact Nat.lt_trans h1 (h3.2.1 e he)
    · rintro ⟨_, h2, h3⟩
      exact ⟨h2 d (List.mem_cons_self ..), h3⟩

theorem Memory.above_put {m : Memory} {k a : Nat} (b : Byte) (h : Memory.above m k) (ha : k < a) :
    Memory.above (m.put a b) k := by
  induction m with
  | nil => intro c hc; simp [Memory.put] at hc; subst hc; exact ha
  | cons d rest ih =>
    have hd : k < d.1 := h d (List.mem_cons_self ..)
    have hr : Memory.above rest k := fun c hc => h c (List.mem_cons_of_mem _ hc)
    intro c hc
    simp only [Memory.put] at hc
    split at hc
    · rcases List.mem_cons.1 hc with rfl | hc
      · exact ha
      · exact h c hc
    · split at hc
      · rcases List.mem_cons.1 hc with rfl | hc
        · exact ha
        · exact hr c hc
      · rcases List.mem_cons.1 hc with rfl | hc
        · exact hd
        · exact ih hr c hc

theorem Memory.wf_put {m : Memory} {a : Nat} (b : Byte) (h : m.wf = true) (ha : a < 2 ^ 64) :
    (m.put a b).wf = true := by
  induction m with
  | nil => simpa [Memory.put, Memory.wf] using ha
  | cons c rest ih =>
    have hc := (Memory.wf_cons c rest).1 h
    simp only [Memory.put]
    split
    · rename_i hlt
      refine (Memory.wf_cons _ _).2 ⟨ha, ?_, h⟩
      intro d hd
      rcases List.mem_cons.1 hd with rfl | hd
      · exact hlt
      · exact Nat.lt_trans hlt (hc.2.1 d hd)
    · split
      · rename_i _ e
        subst e
        exact (Memory.wf_cons _ _).2 ⟨ha, hc.2.1, hc.2.2⟩
      · exact (Memory.wf_cons _ _).2 ⟨hc.1, Memory.above_put b hc.2.1 (by omega), ih hc.2.2⟩

theorem Memory.wf_putBytes {m : Memory} (a : Word) (bs : List Byte) (h : m.wf = true) :
    (m.putBytes a bs).wf = true := by
  induction bs generalizing m a with
  | nil => exact h
  | cons b rest ih => exact ih _ (Memory.wf_put b h a.isLt)

theorem Memory.wf_putAll {m : Memory} (ws : List (Word × Byte)) (h : m.wf = true) : (m.putAll ws).wf = true := by
  induction ws generalizing m with
  | nil => exact h
  | cons w rest ih => exact ih (Memory.wf_put w.2 h w.1.isLt)

theorem State.reset_mem_wf : State.reset.mem.wf = true := rfl

/-! ### Several bytes -/

/-- A byte outside the stored range reads as before. -/
theorem Memory.get?_putBytes_of_not_mem (m : Memory) (a : Word) (bs : List Byte) (q : Nat)
    (h : a.toNat + bs.length ≤ 2 ^ 64) (hq : q < a.toNat ∨ a.toNat + bs.length ≤ q) :
    (m.putBytes a bs).get? q = m.get? q := by
  induction bs generalizing m a with
  | nil => rfl
  | cons b rest ih =>
    simp only [List.length_cons] at h hq
    by_cases hr : rest = []
    · subst hr
      simp only [Memory.putBytes]
      exact Memory.get?_put_of_ne m b (by simp at hq; omega)
    · have hl : 0 < rest.length := List.length_pos_iff.2 hr
      have ha : (a + 1#64).toNat = a.toNat + 1 := by
        rw [BitVec.toNat_add]
        simp only [BitVec.toNat_ofNat]
        omega
      simp only [Memory.putBytes]
      rw [ih (m.put a.toNat b) (a + 1#64) (by omega) (by omega)]
      exact Memory.get?_put_of_ne m b (by omega)

/-- A byte inside the stored range reads as stored. -/
theorem Memory.get?_putBytes_of_mem (m : Memory) (a : Word) (bs : List Byte) (i : Nat)
    (h : a.toNat + bs.length ≤ 2 ^ 64) (hi : i < bs.length) :
    (m.putBytes a bs).get? (a.toNat + i) = bs[i]? := by
  induction bs generalizing m a i with
  | nil => simp at hi
  | cons b rest ih =>
    simp only [List.length_cons] at h hi
    by_cases hr : rest = []
    · subst hr
      have : i = 0 := by simp at hi; omega
      subst this
      simpa [Memory.putBytes] using Memory.get?_put_self m a.toNat b
    · have hl : 0 < rest.length := List.length_pos_iff.2 hr
      have ha : (a + 1#64).toNat = a.toNat + 1 := by
        rw [BitVec.toNat_add]
        simp only [BitVec.toNat_ofNat]
        omega
      simp only [Memory.putBytes]
      cases i with
      | zero =>
        rw [Memory.get?_putBytes_of_not_mem _ _ _ _ (by omega) (by omega)]
        simpa using Memory.get?_put_self m a.toNat b
      | succ j =>
        have := ih (m.put a.toNat b) (a + 1#64) j (by omega) (by omega)
        rw [ha] at this
        rw [show a.toNat + (j + 1) = a.toNat + 1 + j by omega, this]
        simp

end Sys2Proof.Machine
end

