-- ==== Sys2Proof/Laws/State.lean ====
section
/-! SUPPORT. One lemma per field per update of the state, and the register file's read-after-write laws. -/

namespace Sys2Proof.Machine

/-! ### Registers -/

@[simp] theorem RegFile.get_set_self (x : RegFile) (r : Reg) (c : Cell) : (x.set r c).get r = c := by
  cases r <;> rfl

theorem RegFile.get_set_of_ne (x : RegFile) {r q : Reg} (c : Cell) (h : q ≠ r) : (x.set r c).get q = x.get q := by
  cases r <;> cases q <;> first | rfl | exact absurd rfl h

theorem RegFile.ext_get {x y : RegFile} (h : ∀ r, x.get r = y.get r) : x = y := by
  cases x; cases y
  have h0 := h .r0; have h1 := h .r1; have h2 := h .r2; have h3 := h .r3; have h4 := h .r4; have h5 := h .r5
  have h6 := h .r6; have h7 := h .r7; have h8 := h .r8; have h9 := h .r9; have h10 := h .r10
  simp only [RegFile.get] at *
  subst_vars; rfl

theorem RegFile.r10_set {x : RegFile} {r : Reg} (c : Cell) (h : r ≠ .r10) : (x.set r c).r10 = x.r10 := by
  cases r <;> first | rfl | exact absurd rfl h

/-! ### Entry -/

@[simp] theorem Cell.supplied_none : Cell.supplied none = .unwritten := rfl
@[simp] theorem Cell.supplied_some (v : Word) : Cell.supplied (some v) = .of v := rfl
@[simp] theorem RegFile.entry_r0 (p : Platform) : (RegFile.entry p).r0 = .unwritten := rfl
@[simp] theorem RegFile.entry_r1 (p : Platform) : (RegFile.entry p).r1 = .of p.entry.ctx := rfl
@[simp] theorem RegFile.entry_r2 (p : Platform) : (RegFile.entry p).r2 = .supplied p.entry.x2 := rfl
@[simp] theorem RegFile.entry_r3 (p : Platform) : (RegFile.entry p).r3 = .supplied p.entry.x3 := rfl
@[simp] theorem RegFile.entry_r4 (p : Platform) : (RegFile.entry p).r4 = .supplied p.entry.x4 := rfl
@[simp] theorem RegFile.entry_r5 (p : Platform) : (RegFile.entry p).r5 = .supplied p.entry.x5 := rfl
@[simp] theorem RegFile.entry_r6 (p : Platform) : (RegFile.entry p).r6 = .unwritten := rfl
@[simp] theorem RegFile.entry_r7 (p : Platform) : (RegFile.entry p).r7 = .unwritten := rfl
@[simp] theorem RegFile.entry_r8 (p : Platform) : (RegFile.entry p).r8 = .unwritten := rfl
@[simp] theorem RegFile.entry_r9 (p : Platform) : (RegFile.entry p).r9 = .unwritten := rfl
@[simp] theorem RegFile.entry_r10 (p : Platform) : (RegFile.entry p).r10 = .of (frameFor p 0) := rfl
@[simp] theorem enter_x (p : Platform) (prog : List Slot) : (State.enter p prog).x = .entry p := rfl
@[simp] theorem enter_pc (p : Platform) (prog : List Slot) : (State.enter p prog).pc = 0 := rfl
@[simp] theorem enter_callstack (p : Platform) (prog : List Slot) : (State.enter p prog).callstack = [] := rfl
@[simp] theorem enter_status (p : Platform) (prog : List Slot) : (State.enter p prog).status = .running := rfl
@[simp] theorem enter_mem (p : Platform) (prog : List Slot) : (State.enter p prog).mem = [] := rfl
@[simp] theorem enter_prog (p : Platform) (prog : List Slot) : (State.enter p prog).prog = prog := rfl
@[simp] theorem enter_cfg (p : Platform) (prog : List Slot) : (State.enter p prog).cfg = p := rfl
@[simp] theorem enter_tick (p : Platform) (prog : List Slot) : (State.enter p prog).tick = 0 := rfl

/-! ### `raise` -/

@[simp] theorem raise_x (s : State) (f : RunFault) : (raise s f).x = s.x := rfl
@[simp] theorem raise_pc (s : State) (f : RunFault) : (raise s f).pc = s.pc := rfl
@[simp] theorem raise_callstack (s : State) (f : RunFault) : (raise s f).callstack = s.callstack := rfl
@[simp] theorem raise_status (s : State) (f : RunFault) : (raise s f).status = .faulted f := rfl
@[simp] theorem raise_mem (s : State) (f : RunFault) : (raise s f).mem = s.mem := rfl
@[simp] theorem raise_prog (s : State) (f : RunFault) : (raise s f).prog = s.prog := rfl
@[simp] theorem raise_cfg (s : State) (f : RunFault) : (raise s f).cfg = s.cfg := rfl
@[simp] theorem raise_tick (s : State) (f : RunFault) : (raise s f).tick = s.tick := rfl

/-! ### `writeReg` -/

@[simp] theorem writeReg_x (s : State) (r : Reg) (v : Word) : (writeReg s r v).x = s.x.set r (.of v) := rfl
@[simp] theorem writeReg_pc (s : State) (r : Reg) (v : Word) : (writeReg s r v).pc = s.pc := rfl
@[simp] theorem writeReg_callstack (s : State) (r : Reg) (v : Word) : (writeReg s r v).callstack = s.callstack := rfl
@[simp] theorem writeReg_status (s : State) (r : Reg) (v : Word) : (writeReg s r v).status = s.status := rfl
@[simp] theorem writeReg_mem (s : State) (r : Reg) (v : Word) : (writeReg s r v).mem = s.mem := rfl
@[simp] theorem writeReg_prog (s : State) (r : Reg) (v : Word) : (writeReg s r v).prog = s.prog := rfl
@[simp] theorem writeReg_cfg (s : State) (r : Reg) (v : Word) : (writeReg s r v).cfg = s.cfg := rfl
@[simp] theorem writeReg_tick (s : State) (r : Reg) (v : Word) : (writeReg s r v).tick = s.tick := rfl

/-! ### `advance` -/

@[simp] theorem advance_x (s : State) (n : Int) : (advance s n).x = s.x := rfl
@[simp] theorem advance_pc (s : State) (n : Int) : (advance s n).pc = s.pc + n := rfl
@[simp] theorem advance_callstack (s : State) (n : Int) : (advance s n).callstack = s.callstack := rfl
@[simp] theorem advance_status (s : State) (n : Int) : (advance s n).status = s.status := rfl
@[simp] theorem advance_mem (s : State) (n : Int) : (advance s n).mem = s.mem := rfl
@[simp] theorem advance_prog (s : State) (n : Int) : (advance s n).prog = s.prog := rfl
@[simp] theorem advance_cfg (s : State) (n : Int) : (advance s n).cfg = s.cfg := rfl
@[simp] theorem advance_tick (s : State) (n : Int) : (advance s n).tick = s.tick := rfl

/-! ### `jumpBy` -/

@[simp] theorem jumpBy_x (s : State) (k : Int) : (jumpBy s k).x = s.x := rfl
@[simp] theorem jumpBy_pc (s : State) (k : Int) : (jumpBy s k).pc = s.pc + 1 + k := rfl
@[simp] theorem jumpBy_callstack (s : State) (k : Int) : (jumpBy s k).callstack = s.callstack := rfl
@[simp] theorem jumpBy_status (s : State) (k : Int) : (jumpBy s k).status = s.status := rfl
@[simp] theorem jumpBy_mem (s : State) (k : Int) : (jumpBy s k).mem = s.mem := rfl
@[simp] theorem jumpBy_prog (s : State) (k : Int) : (jumpBy s k).prog = s.prog := rfl
@[simp] theorem jumpBy_cfg (s : State) (k : Int) : (jumpBy s k).cfg = s.cfg := rfl
@[simp] theorem jumpBy_tick (s : State) (k : Int) : (jumpBy s k).tick = s.tick := rfl

/-! ### `storeAt` -/

@[simp] theorem storeAt_x (s : State) (addr : Word) (n : Nat) (v : Word) : (storeAt s addr n v).x = s.x := rfl
@[simp] theorem storeAt_pc (s : State) (addr : Word) (n : Nat) (v : Word) : (storeAt s addr n v).pc = s.pc := rfl
@[simp] theorem storeAt_callstack (s : State) (addr : Word) (n : Nat) (v : Word) : (storeAt s addr n v).callstack =
    s.callstack := rfl
@[simp] theorem storeAt_status (s : State) (addr : Word) (n : Nat) (v : Word) : (storeAt s addr n v).status =
    s.status := rfl
@[simp] theorem storeAt_mem (s : State) (addr : Word) (n : Nat) (v : Word) : (storeAt s addr n v).mem =
    s.mem.putBytes addr (hostBytes s.cfg.hostEndian n v) := rfl
@[simp] theorem storeAt_prog (s : State) (addr : Word) (n : Nat) (v : Word) : (storeAt s addr n v).prog =
    s.prog := rfl
@[simp] theorem storeAt_cfg (s : State) (addr : Word) (n : Nat) (v : Word) : (storeAt s addr n v).cfg = s.cfg := rfl
@[simp] theorem storeAt_tick (s : State) (addr : Word) (n : Nat) (v : Word) : (storeAt s addr n v).tick =
    s.tick := rfl

/-! ### `afterHelper` -/

@[simp] theorem afterHelper_x (s : State) (result : Word) (writes : List (Word × Byte)) :
    (afterHelper s result writes).x = forgetArgs (s.x.set .r0 (.of result)) := rfl
@[simp] theorem afterHelper_pc (s : State) (result : Word) (writes : List (Word × Byte)) :
    (afterHelper s result writes).pc = s.pc + 1 := rfl
@[simp] theorem afterHelper_callstack (s : State) (result : Word) (writes : List (Word × Byte)) :
    (afterHelper s result writes).callstack = s.callstack := rfl
@[simp] theorem afterHelper_status (s : State) (result : Word) (writes : List (Word × Byte)) :
    (afterHelper s result writes).status = s.status := rfl
@[simp] theorem afterHelper_mem (s : State) (result : Word) (writes : List (Word × Byte)) :
    (afterHelper s result writes).mem = s.mem.putAll writes := rfl
@[simp] theorem afterHelper_prog (s : State) (result : Word) (writes : List (Word × Byte)) :
    (afterHelper s result writes).prog = s.prog := rfl
@[simp] theorem afterHelper_cfg (s : State) (result : Word) (writes : List (Word × Byte)) :
    (afterHelper s result writes).cfg = s.cfg := rfl
@[simp] theorem afterHelper_tick (s : State) (result : Word) (writes : List (Word × Byte)) :
    (afterHelper s result writes).tick = s.tick := rfl

/-! ### `enterCallee` -/

@[simp] theorem enterCallee_x (s : State) (disp : Int) : (enterCallee s disp).x = calleeRegs s := rfl
@[simp] theorem enterCallee_pc (s : State) (disp : Int) : (enterCallee s disp).pc = s.pc + 1 + disp := rfl
@[simp] theorem enterCallee_callstack (s : State) (disp : Int) : (enterCallee s disp).callstack =
    s.callstack ++ [callFrame s] := rfl
@[simp] theorem enterCallee_status (s : State) (disp : Int) : (enterCallee s disp).status = s.status := rfl
@[simp] theorem enterCallee_mem (s : State) (disp : Int) : (enterCallee s disp).mem = s.mem := rfl
@[simp] theorem enterCallee_prog (s : State) (disp : Int) : (enterCallee s disp).prog = s.prog := rfl
@[simp] theorem enterCallee_cfg (s : State) (disp : Int) : (enterCallee s disp).cfg = s.cfg := rfl
@[simp] theorem enterCallee_tick (s : State) (disp : Int) : (enterCallee s disp).tick = s.tick := rfl

/-! ### `returnTo` -/

@[simp] theorem returnTo_x (s : State) (f : Frame) : (returnTo s f).x = callerRegs s.x f := rfl
@[simp] theorem returnTo_pc (s : State) (f : Frame) : (returnTo s f).pc = f.ret := rfl
@[simp] theorem returnTo_callstack (s : State) (f : Frame) : (returnTo s f).callstack = s.callstack.dropLast := rfl
@[simp] theorem returnTo_status (s : State) (f : Frame) : (returnTo s f).status = s.status := rfl
@[simp] theorem returnTo_mem (s : State) (f : Frame) : (returnTo s f).mem = s.mem := rfl
@[simp] theorem returnTo_prog (s : State) (f : Frame) : (returnTo s f).prog = s.prog := rfl
@[simp] theorem returnTo_cfg (s : State) (f : Frame) : (returnTo s f).cfg = s.cfg := rfl
@[simp] theorem returnTo_tick (s : State) (f : Frame) : (returnTo s f).tick = s.tick := rfl

/-! ### `bump` -/

@[simp] theorem bump_x (s : State) : (bump s).x = s.x := rfl
@[simp] theorem bump_pc (s : State) : (bump s).pc = s.pc := rfl
@[simp] theorem bump_callstack (s : State) : (bump s).callstack = s.callstack := rfl
@[simp] theorem bump_status (s : State) : (bump s).status = s.status := rfl
@[simp] theorem bump_mem (s : State) : (bump s).mem = s.mem := rfl
@[simp] theorem bump_prog (s : State) : (bump s).prog = s.prog := rfl
@[simp] theorem bump_cfg (s : State) : (bump s).cfg = s.cfg := rfl
@[simp] theorem bump_tick (s : State) : (bump s).tick = s.tick + 1 := rfl

/-! ### `wrote` -/

@[simp] theorem wrote_x (s : State) (d : Reg) (v : Word) (n : Int) : (wrote s d v n).x = s.x.set d ⟨v, true⟩ := rfl
@[simp] theorem wrote_pc (s : State) (d : Reg) (v : Word) (n : Int) : (wrote s d v n).pc = s.pc + n := rfl
@[simp] theorem wrote_callstack (s : State) (d : Reg) (v : Word) (n : Int) : (wrote s d v n).callstack =
    s.callstack := rfl
@[simp] theorem wrote_status (s : State) (d : Reg) (v : Word) (n : Int) : (wrote s d v n).status = s.status := rfl
@[simp] theorem wrote_mem (s : State) (d : Reg) (v : Word) (n : Int) : (wrote s d v n).mem = s.mem := rfl
@[simp] theorem wrote_prog (s : State) (d : Reg) (v : Word) (n : Int) : (wrote s d v n).prog = s.prog := rfl
@[simp] theorem wrote_cfg (s : State) (d : Reg) (v : Word) (n : Int) : (wrote s d v n).cfg = s.cfg := rfl
@[simp] theorem wrote_tick (s : State) (d : Reg) (v : Word) (n : Int) : (wrote s d v n).tick = s.tick := rfl

/-! ### `stored` -/

@[simp] theorem stored_x (s : State) (addr : Word) (n : Nat) (v : Word) : (stored s addr n v).x = s.x := rfl
@[simp] theorem stored_pc (s : State) (addr : Word) (n : Nat) (v : Word) : (stored s addr n v).pc = s.pc + 1 := rfl
@[simp] theorem stored_callstack (s : State) (addr : Word) (n : Nat) (v : Word) : (stored s addr n v).callstack =
    s.callstack := rfl
@[simp] theorem stored_status (s : State) (addr : Word) (n : Nat) (v : Word) : (stored s addr n v).status =
    s.status := rfl
@[simp] theorem stored_mem (s : State) (addr : Word) (n : Nat) (v : Word) : (stored s addr n v).mem =
    s.mem.putBytes addr (hostBytes s.cfg.hostEndian n v) := rfl
@[simp] theorem stored_prog (s : State) (addr : Word) (n : Nat) (v : Word) : (stored s addr n v).prog = s.prog := rfl
@[simp] theorem stored_cfg (s : State) (addr : Word) (n : Nat) (v : Word) : (stored s addr n v).cfg = s.cfg := rfl
@[simp] theorem stored_tick (s : State) (addr : Word) (n : Nat) (v : Word) : (stored s addr n v).tick = s.tick := rfl

end Sys2Proof.Machine
end

