-- ==== Sys2Proof/Laws/Ops.lean ====
section
/-! SUPPORT. One lemma per shared operation: when it completes and with what, and everything it can answer. -/

namespace Sys2Proof.Machine

/-! ### Guards -/

theorem readFault_of_readable {s : State} {rs : List Reg} (h : Readable s rs) : readFault s rs = none := by
  unfold readFault
  split
  · rename_i hr
    rw [Option.map_eq_none_iff, List.find?_eq_none]
    intro r _ hb
    simp only [Bool.and_eq_true, List.contains_iff_mem, Bool.not_eq_true'] at hb
    rw [h hr r hb.1] at hb
    exact absurd hb.2 (by decide)
  · rfl

/-- The only fault of an operand read: UnwrittenRegister, for the lowest-numbered unwritten register read
(60_exceptions.md R342). -/
theorem readFault_some {s : State} {rs : List Reg} {f : RunFault} (h : readFault s rs = some f) :
    ∃ r, f = .unwrittenRegister s.pc r ∧ r ∈ rs ∧ (s.x.get r).written = false ∧ s.cfg.unwrittenRaises = true := by
  unfold readFault at h
  split at h
  · rename_i hr
    rw [Option.map_eq_some_iff] at h
    obtain ⟨r, h1, h2⟩ := h
    have := List.find?_some h1
    simp only [Bool.and_eq_true, List.contains_iff_mem, Bool.not_eq_true'] at this
    exact ⟨r, h2.symm, this.1, this.2, hr⟩
  · exact absurd h (by simp)

theorem guardRead_of_readable {s : State} {rs : List Reg} (h : Readable s rs) (k : Effect) :
    guardRead s rs k = k := by
  simp [guardRead, readFault_of_readable h]

theorem guardWrite_of_ne {s : State} {d : Reg} (h : d ≠ .r10) (k : Effect) : guardWrite s d k = k := by
  simp [guardWrite, h]

theorem guardRead_cases (s : State) (rs : List Reg) (k : Effect) :
    guardRead s rs k = k ∨ ∃ f, guardRead s rs k = .error f := by
  unfold guardRead
  split
  · exact .inr ⟨_, rfl⟩
  · exact .inl rfl

theorem guardWrite_cases (s : State) (d : Reg) (k : Effect) :
    (d ≠ .r10 ∧ guardWrite s d k = k) ∨ ∃ f, guardWrite s d k = .error f := by
  unfold guardWrite
  split
  · exact .inr ⟨_, rfl⟩
  · exact .inl ⟨‹_›, rfl⟩

@[simp] theorem finish_ok (s t : State) : finish s (.ok t) = t := rfl
@[simp] theorem finish_error (s : State) (f : RunFault) : finish s (.error f) = raise s f := rfl

/-! ### What executing an instruction can do -/

/-- Everything the execution of an instruction can do to a state, within the instruction's footprint. -/
inductive Does (s : State) (i : Instr) : State → Prop where
  | raises (f : RunFault) : Does s i (raise s f)
  | writes (d : Reg) (v : Word) (n : Int) (ht : target i = some d) (hd : d ≠ .r10) : Does s i (wrote s d v n)
  | jumps (k : Int) : Does s i { s with pc := k }
  | stores (addr : Word) (n : Nat) (v : Word) (kind : AccessKind) (ha : access s i = some (kind, addr, n))
      (hk : kind ≠ .read) (hm : memAdmit s addr n kind = true) : Does s i (stored s addr n v)
  | swaps (addr : Word) (n : Nat) (v : Word) (d : Reg) (w : Word) (ha : access s i = some (.atomic, addr, n))
      (hm : memAdmit s addr n .atomic = true) (ht : target i = some d) (hd : d ≠ .r10) :
      Does s i (wrote (storeAt s addr n v) d w 1)
  | helped (result : Word) (writes : List (Word × Byte)) (hc : callsHelper i = true) :
      Does s i (afterHelper s result writes)
  | waits (hc : callsHelper i = true) : Does s i s
  | calls (imm : Word32) (hi : i = .callLocal imm) (h : depthReached s = false) : Does s i (enterCallee s imm.toInt)
  | returns (f : Frame) (hi : i = .exit) (h : s.callstack.getLast? = some f) : Does s i (returnTo s f)
  | exits (hi : i = .exit) (h : s.callstack = []) : Does s i { s with status := .exited (r0Val s) }

theorem settle_does {s : State} {i : Instr} {e : Effect} (h : ∀ t, e = .ok t → Does s i t) :
    ∃ t, settle s e = .next t ∧ Does s i t := by
  cases e with
  | ok t => exact ⟨t, rfl, h t rfl⟩
  | error f => exact ⟨raise s f, rfl, .raises f⟩

theorem ok_of_guardRead {s t : State} {rs : List Reg} {k : Effect} (h : guardRead s rs k = .ok t) : k = .ok t := by
  rcases guardRead_cases s rs k with e | ⟨f, e⟩
  · rwa [e] at h
  · rw [e] at h; cases h

theorem ok_of_guardWrite {s t : State} {d : Reg} {k : Effect} (h : guardWrite s d k = .ok t) :
    d ≠ .r10 ∧ k = .ok t := by
  rcases guardWrite_cases s d k with ⟨hd, e⟩ | ⟨f, e⟩
  · rw [e] at h; exact ⟨hd, h⟩
  · rw [e] at h; cases h

/-! ### Arithmetic -/

theorem writeResult_next {s : State} {d : Reg} {rs : List Reg} (v : Word) (hd : d ≠ .r10) (hr : Readable s rs) :
    writeResult s d rs v = .next (wrote s d v 1) := by
  simp [writeResult, settle, guardWrite_of_ne hd, guardRead_of_readable hr, advance, writeReg, wrote, Cell.of]

theorem writeResult_does {i : Instr} {d : Reg} (s : State) (rs : List Reg) (v : Word) (ht : target i = some d) :
    ∃ t, writeResult s d rs v = .next t ∧ Does s i t := by
  apply settle_does
  intro t h
  obtain ⟨hd, h⟩ := ok_of_guardWrite h
  cases ok_of_guardRead h
  exact .writes d v 1 ht hd

/-! ### Jumps -/

theorem jumpIf_next {s : State} {rs : List Reg} (c : Bool) (off : Word16) (hr : Readable s rs) :
    jumpIf s rs c off = .next { s with pc := s.pc + 1 + (if c then off.toInt else 0) } := by
  cases c <;> simp [jumpIf, settle, guardRead_of_readable hr, jumpBy, advance]

theorem jumpIf_does (i : Instr) (s : State) (rs : List Reg) (c : Bool) (off : Word16) :
    ∃ t, jumpIf s rs c off = .next t ∧ Does s i t := by
  apply settle_does
  intro t h
  cases ok_of_guardRead h
  cases c
  · exact .jumps _
  · exact .jumps _

/-! ### Data memory -/

theorem memRead_ok {s : State} {addr : Word} {n : Nat} {v : Word} (h : memRead s addr n = .ok v) :
    plainMisaligned s addr n = false ∧ memAdmit s addr n .read = true ∧ v = valueAt s addr n := by
  unfold memRead at h
  split at h
  · cases h
  · split at h
    · cases h; exact ⟨Bool.eq_false_iff.2 ‹_›, ‹_›, rfl⟩
    · cases h

theorem memWrite_ok {s t : State} {addr : Word} {n : Nat} {v : Word} (h : memWrite s addr n v = .ok t) :
    plainMisaligned s addr n = false ∧ memAdmit s addr n .write = true ∧ t = storeAt s addr n v := by
  unfold memWrite at h
  split at h
  · cases h
  · split at h
    · cases h; exact ⟨Bool.eq_false_iff.2 ‹_›, ‹_›, rfl⟩
    · cases h

theorem atomicRmw_ok {s t : State} {addr : Word} {n : Nat} {f : Word → Word} {old : Word}
    (h : atomicRmw s addr n f = .ok (old, t)) :
    addr.toNat % n = 0 ∧ memAdmit s addr n .atomic = true ∧ old = valueAt s addr n ∧
      t = storeAt s addr n (f (valueAt s addr n)) := by
  unfold atomicRmw at h
  split at h
  · cases h
  · split at h
    · cases h; exact ⟨Classical.not_not.1 ‹_›, ‹_›, rfl, rfl⟩
    · cases h

theorem load_next {s : State} {d r : Reg} {off : Word16} (n : Nat) (ext : Word → Word) (hd : d ≠ .r10)
    (hr : Readable s [r]) (ha : plainMisaligned s (loadAddr s r off) n = false)
    (hm : memAdmit s (loadAddr s r off) n .read = true) :
    load n ext d r off s = .next (wrote s d (ext (valueAt s (loadAddr s r off) n)) 1) := by
  simp [load, settle, guardWrite_of_ne hd, guardRead_of_readable hr, memRead, ha, hm, advance, writeReg, wrote,
    Cell.of]

theorem load_does {i : Instr} {d : Reg} (n : Nat) (ext : Word → Word) (r : Reg) (off : Word16) (s : State)
    (ht : target i = some d) : ∃ t, load n ext d r off s = .next t ∧ Does s i t := by
  apply settle_does
  intro t h
  obtain ⟨hd, h⟩ := ok_of_guardWrite h
  have h := ok_of_guardRead h
  split at h
  · cases h; exact .writes d _ 1 ht hd
  · cases h

theorem store_next {s : State} {rs : List Reg} {addr : Word} (n : Nat) (v : Word) (hr : Readable s rs)
    (ha : plainMisaligned s addr n = false) (hm : memAdmit s addr n .write = true) :
    store n rs addr v s = .next (stored s addr n v) := by
  simp [store, settle, guardRead_of_readable hr, memWrite, ha, hm, advance, storeAt, stored]

theorem store_does {i : Instr} {n : Nat} {addr : Word} {s : State} (rs : List Reg) (v : Word)
    (ha : access s i = some (.write, addr, n)) : ∃ t, store n rs addr v s = .next t ∧ Does s i t := by
  apply settle_does
  intro t h
  have h := ok_of_guardRead h
  split at h
  · rename_i u hu
    obtain ⟨_, hm, rfl⟩ := memWrite_ok hu
    cases h
    exact .stores addr n v .write ha (by decide) hm
  · cases h

/-! ### Atomic operations -/

theorem atomicPlain_next {s : State} {d r : Reg} {off : Word16} (n : Nat) (f : Word → Word → Word)
    (hr : Readable s [d, r]) (ha : (storeAddr s d off).toNat % n = 0)
    (hm : memAdmit s (storeAddr s d off) n .atomic = true) :
    atomicPlain n f d r off s =
      .next (stored s (storeAddr s d off) n (f (valueAt s (storeAddr s d off) n) (srcVal s r))) := by
  simp [atomicPlain, settle, guardRead_of_readable hr, atomicRmw, ha, hm, advance, storeAt, stored]

theorem atomicPlain_does {i : Instr} {n : Nat} {d : Reg} {off : Word16} {s : State} (f : Word → Word → Word)
    (r : Reg) (ha : access s i = some (.atomic, storeAddr s d off, n)) :
    ∃ t, atomicPlain n f d r off s = .next t ∧ Does s i t := by
  apply settle_does
  intro t h
  have h := ok_of_guardRead h
  split at h
  · rename_i hu
    obtain ⟨_, hm, _, rfl⟩ := atomicRmw_ok hu
    cases h
    exact .stores _ n _ .atomic ha (by decide) hm
  · cases h

theorem atomicFetch_next {s : State} {d r : Reg} {off : Word16} (n : Nat) (f : Word → Word → Word)
    (hd : r ≠ .r10) (hr : Readable s [d, r]) (ha : (storeAddr s d off).toNat % n = 0)
    (hm : memAdmit s (storeAddr s d off) n .atomic = true) :
    atomicFetch n f d r off s =
      .next (wrote (storeAt s (storeAddr s d off) n (f (valueAt s (storeAddr s d off) n) (srcVal s r))) r
        (valueAt s (storeAddr s d off) n) 1) := by
  simp [atomicFetch, settle, guardWrite_of_ne hd, guardRead_of_readable hr, atomicRmw, ha, hm, advance, writeReg,
    wrote, Cell.of]

theorem atomicFetch_does {i : Instr} {n : Nat} {d r : Reg} {off : Word16} {s : State} (f : Word → Word → Word)
    (ha : access s i = some (.atomic, storeAddr s d off, n)) (ht : target i = some r) :
    ∃ t, atomicFetch n f d r off s = .next t ∧ Does s i t := by
  apply settle_does
  intro t h
  obtain ⟨hd, h⟩ := ok_of_guardWrite h
  have h := ok_of_guardRead h
  split at h
  · rename_i hu
    obtain ⟨_, hm, rfl, rfl⟩ := atomicRmw_ok hu
    cases h
    exact .swaps _ n _ r _ ha hm ht hd
  · cases h

theorem atomicCmpxchg_next {s : State} {d r : Reg} {off : Word16} (n : Nat) (cmp : Word → Word → Bool)
    (hr : Readable s [d, r, .r0]) (ha : (storeAddr s d off).toNat % n = 0)
    (hm : memAdmit s (storeAddr s d off) n .atomic = true) :
    atomicCmpxchg n cmp d r off s =
      .next (wrote (storeAt s (storeAddr s d off) n
        (if cmp (valueAt s (storeAddr s d off) n) (r0Val s) then srcVal s r else valueAt s (storeAddr s d off) n))
        .r0 (valueAt s (storeAddr s d off) n) 1) := by
  simp [atomicCmpxchg, settle, guardRead_of_readable hr, atomicRmw, ha, hm, advance, writeReg, wrote, Cell.of]

theorem atomicCmpxchg_does {i : Instr} {n : Nat} {d : Reg} {off : Word16} {s : State} (cmp : Word → Word → Bool)
    (r : Reg) (ha : access s i = some (.atomic, storeAddr s d off, n)) (ht : target i = some .r0) :
    ∃ t, atomicCmpxchg n cmp d r off s = .next t ∧ Does s i t := by
  apply settle_does
  intro t h
  have h := ok_of_guardRead h
  split at h
  · rename_i hu
    obtain ⟨_, hm, rfl, rfl⟩ := atomicRmw_ok hu
    cases h
    exact .swaps _ n _ .r0 _ ha hm ht (by decide)
  · cases h

/-! ### Calls and returns -/

theorem callHelper_does {i : Instr} (kind : HelperKind) (id : Word32) (s : State) (hc : callsHelper i = true) :
    ∃ t, callHelper kind id s = .next t ∧ Does s i t := by
  apply settle_does
  intro t h
  split at h
  · split at h
    · cases h; exact .helped _ _ hc
    · cases h
    · cases h; exact .waits hc
  · cases h

theorem callLocal_next {s : State} (disp : Int) (h : depthReached s = false) :
    callLocal disp s = .next (enterCallee s disp) := by
  simp [callLocal, settle, h]

theorem callLocal_does (imm : Word32) (s : State) :
    ∃ t, callLocal imm.toInt s = .next t ∧ Does s (.callLocal imm) t := by
  apply settle_does
  intro t h
  split at h
  · cases h
  · cases h; exact .calls imm rfl (Bool.eq_false_iff.2 ‹_›)

theorem exitOrReturn_does (s : State) : ∃ t, exitOrReturn s = .next t ∧ Does s .exit t := by
  apply settle_does
  intro t h
  split at h
  · rename_i hl
    cases ok_of_guardRead h
    exact .exits rfl (List.getLast?_eq_none_iff.1 hl)
  · rename_i f hf
    cases h
    exact .returns f rfl hf

/-! ### Platform objects -/

theorem writeObject_next {s : State} {d : Reg} (kind : ObjectKind) (imm : Word32) (a : Word) (hd : d ≠ .r10) :
    writeObject s d kind imm (some a) = .next (wrote s d a 2) := by
  simp [writeObject, settle, guardWrite_of_ne hd, advance, writeReg, wrote, Cell.of]

theorem writeObject_does {i : Instr} {d : Reg} (s : State) (kind : ObjectKind) (imm : Word32) (v : Option Word)
    (ht : target i = some d) : ∃ t, writeObject s d kind imm v = .next t ∧ Does s i t := by
  apply settle_does
  intro t h
  obtain ⟨hd, h⟩ := ok_of_guardWrite h
  split at h
  · cases h; exact .writes d _ 2 ht hd
  · cases h

end Sys2Proof.Machine
end

