-- ==== Sys2Proof/Laws/Exec.lean ====
section
/-! SUPPORT. Everything one instruction can do, within its footprint, from the laws of the shared operations. -/

namespace Sys2Proof.Machine

theorem execAdd32K_does (d : Reg) (imm : Word32) (s : State) :
    ∃ t, execAdd32K d imm s = .next t ∧ Does s (.add32K d imm) t :=
  writeResult_does _ _ _ rfl

theorem execAdd32X_does (d : Reg) (r : Reg) (s : State) :
    ∃ t, execAdd32X d r s = .next t ∧ Does s (.add32X d r) t :=
  writeResult_does _ _ _ rfl

theorem execSub32K_does (d : Reg) (imm : Word32) (s : State) :
    ∃ t, execSub32K d imm s = .next t ∧ Does s (.sub32K d imm) t :=
  writeResult_does _ _ _ rfl

theorem execSub32X_does (d : Reg) (r : Reg) (s : State) :
    ∃ t, execSub32X d r s = .next t ∧ Does s (.sub32X d r) t :=
  writeResult_does _ _ _ rfl

theorem execMul32K_does (d : Reg) (imm : Word32) (s : State) :
    ∃ t, execMul32K d imm s = .next t ∧ Does s (.mul32K d imm) t :=
  writeResult_does _ _ _ rfl

theorem execMul32X_does (d : Reg) (r : Reg) (s : State) :
    ∃ t, execMul32X d r s = .next t ∧ Does s (.mul32X d r) t :=
  writeResult_does _ _ _ rfl

theorem execDiv32K_does (d : Reg) (imm : Word32) (s : State) :
    ∃ t, execDiv32K d imm s = .next t ∧ Does s (.div32K d imm) t :=
  writeResult_does _ _ _ rfl

theorem execDiv32X_does (d : Reg) (r : Reg) (s : State) :
    ∃ t, execDiv32X d r s = .next t ∧ Does s (.div32X d r) t :=
  writeResult_does _ _ _ rfl

theorem execSdiv32K_does (d : Reg) (imm : Word32) (s : State) :
    ∃ t, execSdiv32K d imm s = .next t ∧ Does s (.sdiv32K d imm) t :=
  writeResult_does _ _ _ rfl

theorem execSdiv32X_does (d : Reg) (r : Reg) (s : State) :
    ∃ t, execSdiv32X d r s = .next t ∧ Does s (.sdiv32X d r) t :=
  writeResult_does _ _ _ rfl

theorem execOr32K_does (d : Reg) (imm : Word32) (s : State) :
    ∃ t, execOr32K d imm s = .next t ∧ Does s (.or32K d imm) t :=
  writeResult_does _ _ _ rfl

theorem execOr32X_does (d : Reg) (r : Reg) (s : State) :
    ∃ t, execOr32X d r s = .next t ∧ Does s (.or32X d r) t :=
  writeResult_does _ _ _ rfl

theorem execAnd32K_does (d : Reg) (imm : Word32) (s : State) :
    ∃ t, execAnd32K d imm s = .next t ∧ Does s (.and32K d imm) t :=
  writeResult_does _ _ _ rfl

theorem execAnd32X_does (d : Reg) (r : Reg) (s : State) :
    ∃ t, execAnd32X d r s = .next t ∧ Does s (.and32X d r) t :=
  writeResult_does _ _ _ rfl

theorem execLsh32K_does (d : Reg) (imm : Word32) (s : State) :
    ∃ t, execLsh32K d imm s = .next t ∧ Does s (.lsh32K d imm) t :=
  writeResult_does _ _ _ rfl

theorem execLsh32X_does (d : Reg) (r : Reg) (s : State) :
    ∃ t, execLsh32X d r s = .next t ∧ Does s (.lsh32X d r) t :=
  writeResult_does _ _ _ rfl

theorem execRsh32K_does (d : Reg) (imm : Word32) (s : State) :
    ∃ t, execRsh32K d imm s = .next t ∧ Does s (.rsh32K d imm) t :=
  writeResult_does _ _ _ rfl

theorem execRsh32X_does (d : Reg) (r : Reg) (s : State) :
    ∃ t, execRsh32X d r s = .next t ∧ Does s (.rsh32X d r) t :=
  writeResult_does _ _ _ rfl

theorem execNeg32_does (d : Reg) (s : State) :
    ∃ t, execNeg32 d s = .next t ∧ Does s (.neg32 d) t :=
  writeResult_does _ _ _ rfl

theorem execMod32K_does (d : Reg) (imm : Word32) (s : State) :
    ∃ t, execMod32K d imm s = .next t ∧ Does s (.mod32K d imm) t :=
  writeResult_does _ _ _ rfl

theorem execMod32X_does (d : Reg) (r : Reg) (s : State) :
    ∃ t, execMod32X d r s = .next t ∧ Does s (.mod32X d r) t :=
  writeResult_does _ _ _ rfl

theorem execSmod32K_does (d : Reg) (imm : Word32) (s : State) :
    ∃ t, execSmod32K d imm s = .next t ∧ Does s (.smod32K d imm) t :=
  writeResult_does _ _ _ rfl

theorem execSmod32X_does (d : Reg) (r : Reg) (s : State) :
    ∃ t, execSmod32X d r s = .next t ∧ Does s (.smod32X d r) t :=
  writeResult_does _ _ _ rfl

theorem execXor32K_does (d : Reg) (imm : Word32) (s : State) :
    ∃ t, execXor32K d imm s = .next t ∧ Does s (.xor32K d imm) t :=
  writeResult_does _ _ _ rfl

theorem execXor32X_does (d : Reg) (r : Reg) (s : State) :
    ∃ t, execXor32X d r s = .next t ∧ Does s (.xor32X d r) t :=
  writeResult_does _ _ _ rfl

theorem execMov32K_does (d : Reg) (imm : Word32) (s : State) :
    ∃ t, execMov32K d imm s = .next t ∧ Does s (.mov32K d imm) t :=
  writeResult_does _ _ _ rfl

theorem execMov32X_does (d : Reg) (r : Reg) (s : State) :
    ∃ t, execMov32X d r s = .next t ∧ Does s (.mov32X d r) t :=
  writeResult_does _ _ _ rfl

theorem execMovsx32From8_does (d : Reg) (r : Reg) (s : State) :
    ∃ t, execMovsx32From8 d r s = .next t ∧ Does s (.movsx32From8 d r) t :=
  writeResult_does _ _ _ rfl

theorem execMovsx32From16_does (d : Reg) (r : Reg) (s : State) :
    ∃ t, execMovsx32From16 d r s = .next t ∧ Does s (.movsx32From16 d r) t :=
  writeResult_does _ _ _ rfl

theorem execArsh32K_does (d : Reg) (imm : Word32) (s : State) :
    ∃ t, execArsh32K d imm s = .next t ∧ Does s (.arsh32K d imm) t :=
  writeResult_does _ _ _ rfl

theorem execArsh32X_does (d : Reg) (r : Reg) (s : State) :
    ∃ t, execArsh32X d r s = .next t ∧ Does s (.arsh32X d r) t :=
  writeResult_does _ _ _ rfl

theorem execAdd64K_does (d : Reg) (imm : Word32) (s : State) :
    ∃ t, execAdd64K d imm s = .next t ∧ Does s (.add64K d imm) t :=
  writeResult_does _ _ _ rfl

theorem execAdd64X_does (d : Reg) (r : Reg) (s : State) :
    ∃ t, execAdd64X d r s = .next t ∧ Does s (.add64X d r) t :=
  writeResult_does _ _ _ rfl

theorem execSub64K_does (d : Reg) (imm : Word32) (s : State) :
    ∃ t, execSub64K d imm s = .next t ∧ Does s (.sub64K d imm) t :=
  writeResult_does _ _ _ rfl

theorem execSub64X_does (d : Reg) (r : Reg) (s : State) :
    ∃ t, execSub64X d r s = .next t ∧ Does s (.sub64X d r) t :=
  writeResult_does _ _ _ rfl

theorem execMul64K_does (d : Reg) (imm : Word32) (s : State) :
    ∃ t, execMul64K d imm s = .next t ∧ Does s (.mul64K d imm) t :=
  writeResult_does _ _ _ rfl

theorem execMul64X_does (d : Reg) (r : Reg) (s : State) :
    ∃ t, execMul64X d r s = .next t ∧ Does s (.mul64X d r) t :=
  writeResult_does _ _ _ rfl

theorem execDiv64K_does (d : Reg) (imm : Word32) (s : State) :
    ∃ t, execDiv64K d imm s = .next t ∧ Does s (.div64K d imm) t :=
  writeResult_does _ _ _ rfl

theorem execDiv64X_does (d : Reg) (r : Reg) (s : State) :
    ∃ t, execDiv64X d r s = .next t ∧ Does s (.div64X d r) t :=
  writeResult_does _ _ _ rfl

theorem execSdiv64K_does (d : Reg) (imm : Word32) (s : State) :
    ∃ t, execSdiv64K d imm s = .next t ∧ Does s (.sdiv64K d imm) t :=
  writeResult_does _ _ _ rfl

theorem execSdiv64X_does (d : Reg) (r : Reg) (s : State) :
    ∃ t, execSdiv64X d r s = .next t ∧ Does s (.sdiv64X d r) t :=
  writeResult_does _ _ _ rfl

theorem execOr64K_does (d : Reg) (imm : Word32) (s : State) :
    ∃ t, execOr64K d imm s = .next t ∧ Does s (.or64K d imm) t :=
  writeResult_does _ _ _ rfl

theorem execOr64X_does (d : Reg) (r : Reg) (s : State) :
    ∃ t, execOr64X d r s = .next t ∧ Does s (.or64X d r) t :=
  writeResult_does _ _ _ rfl

theorem execAnd64K_does (d : Reg) (imm : Word32) (s : State) :
    ∃ t, execAnd64K d imm s = .next t ∧ Does s (.and64K d imm) t :=
  writeResult_does _ _ _ rfl

theorem execAnd64X_does (d : Reg) (r : Reg) (s : State) :
    ∃ t, execAnd64X d r s = .next t ∧ Does s (.and64X d r) t :=
  writeResult_does _ _ _ rfl

theorem execLsh64K_does (d : Reg) (imm : Word32) (s : State) :
    ∃ t, execLsh64K d imm s = .next t ∧ Does s (.lsh64K d imm) t :=
  writeResult_does _ _ _ rfl

theorem execLsh64X_does (d : Reg) (r : Reg) (s : State) :
    ∃ t, execLsh64X d r s = .next t ∧ Does s (.lsh64X d r) t :=
  writeResult_does _ _ _ rfl

theorem execRsh64K_does (d : Reg) (imm : Word32) (s : State) :
    ∃ t, execRsh64K d imm s = .next t ∧ Does s (.rsh64K d imm) t :=
  writeResult_does _ _ _ rfl

theorem execRsh64X_does (d : Reg) (r : Reg) (s : State) :
    ∃ t, execRsh64X d r s = .next t ∧ Does s (.rsh64X d r) t :=
  writeResult_does _ _ _ rfl

theorem execNeg64_does (d : Reg) (s : State) :
    ∃ t, execNeg64 d s = .next t ∧ Does s (.neg64 d) t :=
  writeResult_does _ _ _ rfl

theorem execMod64K_does (d : Reg) (imm : Word32) (s : State) :
    ∃ t, execMod64K d imm s = .next t ∧ Does s (.mod64K d imm) t :=
  writeResult_does _ _ _ rfl

theorem execMod64X_does (d : Reg) (r : Reg) (s : State) :
    ∃ t, execMod64X d r s = .next t ∧ Does s (.mod64X d r) t :=
  writeResult_does _ _ _ rfl

theorem execSmod64K_does (d : Reg) (imm : Word32) (s : State) :
    ∃ t, execSmod64K d imm s = .next t ∧ Does s (.smod64K d imm) t :=
  writeResult_does _ _ _ rfl

theorem execSmod64X_does (d : Reg) (r : Reg) (s : State) :
    ∃ t, execSmod64X d r s = .next t ∧ Does s (.smod64X d r) t :=
  writeResult_does _ _ _ rfl

theorem execXor64K_does (d : Reg) (imm : Word32) (s : State) :
    ∃ t, execXor64K d imm s = .next t ∧ Does s (.xor64K d imm) t :=
  writeResult_does _ _ _ rfl

theorem execXor64X_does (d : Reg) (r : Reg) (s : State) :
    ∃ t, execXor64X d r s = .next t ∧ Does s (.xor64X d r) t :=
  writeResult_does _ _ _ rfl

theorem execMov64K_does (d : Reg) (imm : Word32) (s : State) :
    ∃ t, execMov64K d imm s = .next t ∧ Does s (.mov64K d imm) t :=
  writeResult_does _ _ _ rfl

theorem execMov64X_does (d : Reg) (r : Reg) (s : State) :
    ∃ t, execMov64X d r s = .next t ∧ Does s (.mov64X d r) t :=
  writeResult_does _ _ _ rfl

theorem execMovsx64From8_does (d : Reg) (r : Reg) (s : State) :
    ∃ t, execMovsx64From8 d r s = .next t ∧ Does s (.movsx64From8 d r) t :=
  writeResult_does _ _ _ rfl

theorem execMovsx64From16_does (d : Reg) (r : Reg) (s : State) :
    ∃ t, execMovsx64From16 d r s = .next t ∧ Does s (.movsx64From16 d r) t :=
  writeResult_does _ _ _ rfl

theorem execMovsx64From32_does (d : Reg) (r : Reg) (s : State) :
    ∃ t, execMovsx64From32 d r s = .next t ∧ Does s (.movsx64From32 d r) t :=
  writeResult_does _ _ _ rfl

theorem execArsh64K_does (d : Reg) (imm : Word32) (s : State) :
    ∃ t, execArsh64K d imm s = .next t ∧ Does s (.arsh64K d imm) t :=
  writeResult_does _ _ _ rfl

theorem execArsh64X_does (d : Reg) (r : Reg) (s : State) :
    ∃ t, execArsh64X d r s = .next t ∧ Does s (.arsh64X d r) t :=
  writeResult_does _ _ _ rfl

theorem execLe16_does (d : Reg) (s : State) :
    ∃ t, execLe16 d s = .next t ∧ Does s (.le16 d) t :=
  writeResult_does _ _ _ rfl

theorem execLe32_does (d : Reg) (s : State) :
    ∃ t, execLe32 d s = .next t ∧ Does s (.le32 d) t :=
  writeResult_does _ _ _ rfl

theorem execLe64_does (d : Reg) (s : State) :
    ∃ t, execLe64 d s = .next t ∧ Does s (.le64 d) t :=
  writeResult_does _ _ _ rfl

theorem execBe16_does (d : Reg) (s : State) :
    ∃ t, execBe16 d s = .next t ∧ Does s (.be16 d) t :=
  writeResult_does _ _ _ rfl

theorem execBe32_does (d : Reg) (s : State) :
    ∃ t, execBe32 d s = .next t ∧ Does s (.be32 d) t :=
  writeResult_does _ _ _ rfl

theorem execBe64_does (d : Reg) (s : State) :
    ∃ t, execBe64 d s = .next t ∧ Does s (.be64 d) t :=
  writeResult_does _ _ _ rfl

theorem execBswap16_does (d : Reg) (s : State) :
    ∃ t, execBswap16 d s = .next t ∧ Does s (.bswap16 d) t :=
  writeResult_does _ _ _ rfl

theorem execBswap32_does (d : Reg) (s : State) :
    ∃ t, execBswap32 d s = .next t ∧ Does s (.bswap32 d) t :=
  writeResult_does _ _ _ rfl

theorem execBswap64_does (d : Reg) (s : State) :
    ∃ t, execBswap64 d s = .next t ∧ Does s (.bswap64 d) t :=
  writeResult_does _ _ _ rfl

theorem execJa_does (off : Word16) (s : State) :
    ∃ t, execJa off s = .next t ∧ Does s (.ja off) t :=
  ⟨_, rfl, .jumps _⟩

theorem execJa32_does (imm : Word32) (s : State) :
    ∃ t, execJa32 imm s = .next t ∧ Does s (.ja32 imm) t :=
  ⟨_, rfl, .jumps _⟩

theorem execJeq64K_does (d : Reg) (imm : Word32) (off : Word16) (s : State) :
    ∃ t, execJeq64K d imm off s = .next t ∧ Does s (.jeq64K d imm off) t :=
  jumpIf_does ..

theorem execJeq64X_does (d : Reg) (r : Reg) (off : Word16) (s : State) :
    ∃ t, execJeq64X d r off s = .next t ∧ Does s (.jeq64X d r off) t :=
  jumpIf_does ..

theorem execJeq32K_does (d : Reg) (imm : Word32) (off : Word16) (s : State) :
    ∃ t, execJeq32K d imm off s = .next t ∧ Does s (.jeq32K d imm off) t :=
  jumpIf_does ..

theorem execJeq32X_does (d : Reg) (r : Reg) (off : Word16) (s : State) :
    ∃ t, execJeq32X d r off s = .next t ∧ Does s (.jeq32X d r off) t :=
  jumpIf_does ..

theorem execJgt64K_does (d : Reg) (imm : Word32) (off : Word16) (s : State) :
    ∃ t, execJgt64K d imm off s = .next t ∧ Does s (.jgt64K d imm off) t :=
  jumpIf_does ..

theorem execJgt64X_does (d : Reg) (r : Reg) (off : Word16) (s : State) :
    ∃ t, execJgt64X d r off s = .next t ∧ Does s (.jgt64X d r off) t :=
  jumpIf_does ..

theorem execJgt32K_does (d : Reg) (imm : Word32) (off : Word16) (s : State) :
    ∃ t, execJgt32K d imm off s = .next t ∧ Does s (.jgt32K d imm off) t :=
  jumpIf_does ..

theorem execJgt32X_does (d : Reg) (r : Reg) (off : Word16) (s : State) :
    ∃ t, execJgt32X d r off s = .next t ∧ Does s (.jgt32X d r off) t :=
  jumpIf_does ..

theorem execJge64K_does (d : Reg) (imm : Word32) (off : Word16) (s : State) :
    ∃ t, execJge64K d imm off s = .next t ∧ Does s (.jge64K d imm off) t :=
  jumpIf_does ..

theorem execJge64X_does (d : Reg) (r : Reg) (off : Word16) (s : State) :
    ∃ t, execJge64X d r off s = .next t ∧ Does s (.jge64X d r off) t :=
  jumpIf_does ..

theorem execJge32K_does (d : Reg) (imm : Word32) (off : Word16) (s : State) :
    ∃ t, execJge32K d imm off s = .next t ∧ Does s (.jge32K d imm off) t :=
  jumpIf_does ..

theorem execJge32X_does (d : Reg) (r : Reg) (off : Word16) (s : State) :
    ∃ t, execJge32X d r off s = .next t ∧ Does s (.jge32X d r off) t :=
  jumpIf_does ..

theorem execJset64K_does (d : Reg) (imm : Word32) (off : Word16) (s : State) :
    ∃ t, execJset64K d imm off s = .next t ∧ Does s (.jset64K d imm off) t :=
  jumpIf_does ..

theorem execJset64X_does (d : Reg) (r : Reg) (off : Word16) (s : State) :
    ∃ t, execJset64X d r off s = .next t ∧ Does s (.jset64X d r off) t :=
  jumpIf_does ..

theorem execJset32K_does (d : Reg) (imm : Word32) (off : Word16) (s : State) :
    ∃ t, execJset32K d imm off s = .next t ∧ Does s (.jset32K d imm off) t :=
  jumpIf_does ..

theorem execJset32X_does (d : Reg) (r : Reg) (off : Word16) (s : State) :
    ∃ t, execJset32X d r off s = .next t ∧ Does s (.jset32X d r off) t :=
  jumpIf_does ..

theorem execJne64K_does (d : Reg) (imm : Word32) (off : Word16) (s : State) :
    ∃ t, execJne64K d imm off s = .next t ∧ Does s (.jne64K d imm off) t :=
  jumpIf_does ..

theorem execJne64X_does (d : Reg) (r : Reg) (off : Word16) (s : State) :
    ∃ t, execJne64X d r off s = .next t ∧ Does s (.jne64X d r off) t :=
  jumpIf_does ..

theorem execJne32K_does (d : Reg) (imm : Word32) (off : Word16) (s : State) :
    ∃ t, execJne32K d imm off s = .next t ∧ Does s (.jne32K d imm off) t :=
  jumpIf_does ..

theorem execJne32X_does (d : Reg) (r : Reg) (off : Word16) (s : State) :
    ∃ t, execJne32X d r off s = .next t ∧ Does s (.jne32X d r off) t :=
  jumpIf_does ..

theorem execJsgt64K_does (d : Reg) (imm : Word32) (off : Word16) (s : State) :
    ∃ t, execJsgt64K d imm off s = .next t ∧ Does s (.jsgt64K d imm off) t :=
  jumpIf_does ..

theorem execJsgt64X_does (d : Reg) (r : Reg) (off : Word16) (s : State) :
    ∃ t, execJsgt64X d r off s = .next t ∧ Does s (.jsgt64X d r off) t :=
  jumpIf_does ..

theorem execJsgt32K_does (d : Reg) (imm : Word32) (off : Word16) (s : State) :
    ∃ t, execJsgt32K d imm off s = .next t ∧ Does s (.jsgt32K d imm off) t :=
  jumpIf_does ..

theorem execJsgt32X_does (d : Reg) (r : Reg) (off : Word16) (s : State) :
    ∃ t, execJsgt32X d r off s = .next t ∧ Does s (.jsgt32X d r off) t :=
  jumpIf_does ..

theorem execJsge64K_does (d : Reg) (imm : Word32) (off : Word16) (s : State) :
    ∃ t, execJsge64K d imm off s = .next t ∧ Does s (.jsge64K d imm off) t :=
  jumpIf_does ..

theorem execJsge64X_does (d : Reg) (r : Reg) (off : Word16) (s : State) :
    ∃ t, execJsge64X d r off s = .next t ∧ Does s (.jsge64X d r off) t :=
  jumpIf_does ..

theorem execJsge32K_does (d : Reg) (imm : Word32) (off : Word16) (s : State) :
    ∃ t, execJsge32K d imm off s = .next t ∧ Does s (.jsge32K d imm off) t :=
  jumpIf_does ..

theorem execJsge32X_does (d : Reg) (r : Reg) (off : Word16) (s : State) :
    ∃ t, execJsge32X d r off s = .next t ∧ Does s (.jsge32X d r off) t :=
  jumpIf_does ..

theorem execJlt64K_does (d : Reg) (imm : Word32) (off : Word16) (s : State) :
    ∃ t, execJlt64K d imm off s = .next t ∧ Does s (.jlt64K d imm off) t :=
  jumpIf_does ..

theorem execJlt64X_does (d : Reg) (r : Reg) (off : Word16) (s : State) :
    ∃ t, execJlt64X d r off s = .next t ∧ Does s (.jlt64X d r off) t :=
  jumpIf_does ..

theorem execJlt32K_does (d : Reg) (imm : Word32) (off : Word16) (s : State) :
    ∃ t, execJlt32K d imm off s = .next t ∧ Does s (.jlt32K d imm off) t :=
  jumpIf_does ..

theorem execJlt32X_does (d : Reg) (r : Reg) (off : Word16) (s : State) :
    ∃ t, execJlt32X d r off s = .next t ∧ Does s (.jlt32X d r off) t :=
  jumpIf_does ..

theorem execJle64K_does (d : Reg) (imm : Word32) (off : Word16) (s : State) :
    ∃ t, execJle64K d imm off s = .next t ∧ Does s (.jle64K d imm off) t :=
  jumpIf_does ..

theorem execJle64X_does (d : Reg) (r : Reg) (off : Word16) (s : State) :
    ∃ t, execJle64X d r off s = .next t ∧ Does s (.jle64X d r off) t :=
  jumpIf_does ..

theorem execJle32K_does (d : Reg) (imm : Word32) (off : Word16) (s : State) :
    ∃ t, execJle32K d imm off s = .next t ∧ Does s (.jle32K d imm off) t :=
  jumpIf_does ..

theorem execJle32X_does (d : Reg) (r : Reg) (off : Word16) (s : State) :
    ∃ t, execJle32X d r off s = .next t ∧ Does s (.jle32X d r off) t :=
  jumpIf_does ..

theorem execJslt64K_does (d : Reg) (imm : Word32) (off : Word16) (s : State) :
    ∃ t, execJslt64K d imm off s = .next t ∧ Does s (.jslt64K d imm off) t :=
  jumpIf_does ..

theorem execJslt64X_does (d : Reg) (r : Reg) (off : Word16) (s : State) :
    ∃ t, execJslt64X d r off s = .next t ∧ Does s (.jslt64X d r off) t :=
  jumpIf_does ..

theorem execJslt32K_does (d : Reg) (imm : Word32) (off : Word16) (s : State) :
    ∃ t, execJslt32K d imm off s = .next t ∧ Does s (.jslt32K d imm off) t :=
  jumpIf_does ..

theorem execJslt32X_does (d : Reg) (r : Reg) (off : Word16) (s : State) :
    ∃ t, execJslt32X d r off s = .next t ∧ Does s (.jslt32X d r off) t :=
  jumpIf_does ..

theorem execJsle64K_does (d : Reg) (imm : Word32) (off : Word16) (s : State) :
    ∃ t, execJsle64K d imm off s = .next t ∧ Does s (.jsle64K d imm off) t :=
  jumpIf_does ..

theorem execJsle64X_does (d : Reg) (r : Reg) (off : Word16) (s : State) :
    ∃ t, execJsle64X d r off s = .next t ∧ Does s (.jsle64X d r off) t :=
  jumpIf_does ..

theorem execJsle32K_does (d : Reg) (imm : Word32) (off : Word16) (s : State) :
    ∃ t, execJsle32K d imm off s = .next t ∧ Does s (.jsle32K d imm off) t :=
  jumpIf_does ..

theorem execJsle32X_does (d : Reg) (r : Reg) (off : Word16) (s : State) :
    ∃ t, execJsle32X d r off s = .next t ∧ Does s (.jsle32X d r off) t :=
  jumpIf_does ..

theorem execCallHelper_does (imm : Word32) (s : State) :
    ∃ t, execCallHelper imm s = .next t ∧ Does s (.callHelper imm) t :=
  callHelper_does _ _ _ rfl

theorem execCallLocal_does (imm : Word32) (s : State) :
    ∃ t, execCallLocal imm s = .next t ∧ Does s (.callLocal imm) t :=
  callLocal_does ..

theorem execCallBtf_does (imm : Word32) (s : State) :
    ∃ t, execCallBtf imm s = .next t ∧ Does s (.callBtf imm) t :=
  callHelper_does _ _ _ rfl

theorem execExit_does (s : State) :
    ∃ t, execExit s = .next t ∧ Does s .exit t :=
  exitOrReturn_does ..

theorem execLdxB_does (d : Reg) (r : Reg) (off : Word16) (s : State) :
    ∃ t, execLdxB d r off s = .next t ∧ Does s (.ldxB d r off) t :=
  load_does _ _ _ _ _ rfl

theorem execLdxH_does (d : Reg) (r : Reg) (off : Word16) (s : State) :
    ∃ t, execLdxH d r off s = .next t ∧ Does s (.ldxH d r off) t :=
  load_does _ _ _ _ _ rfl

theorem execLdxW_does (d : Reg) (r : Reg) (off : Word16) (s : State) :
    ∃ t, execLdxW d r off s = .next t ∧ Does s (.ldxW d r off) t :=
  load_does _ _ _ _ _ rfl

theorem execLdxDw_does (d : Reg) (r : Reg) (off : Word16) (s : State) :
    ∃ t, execLdxDw d r off s = .next t ∧ Does s (.ldxDw d r off) t :=
  load_does _ _ _ _ _ rfl

theorem execStB_does (d : Reg) (imm : Word32) (off : Word16) (s : State) :
    ∃ t, execStB d imm off s = .next t ∧ Does s (.stB d imm off) t :=
  store_does _ _ rfl

theorem execStH_does (d : Reg) (imm : Word32) (off : Word16) (s : State) :
    ∃ t, execStH d imm off s = .next t ∧ Does s (.stH d imm off) t :=
  store_does _ _ rfl

theorem execStW_does (d : Reg) (imm : Word32) (off : Word16) (s : State) :
    ∃ t, execStW d imm off s = .next t ∧ Does s (.stW d imm off) t :=
  store_does _ _ rfl

theorem execStDw_does (d : Reg) (imm : Word32) (off : Word16) (s : State) :
    ∃ t, execStDw d imm off s = .next t ∧ Does s (.stDw d imm off) t :=
  store_does _ _ rfl

theorem execStxB_does (d : Reg) (r : Reg) (off : Word16) (s : State) :
    ∃ t, execStxB d r off s = .next t ∧ Does s (.stxB d r off) t :=
  store_does _ _ rfl

theorem execStxH_does (d : Reg) (r : Reg) (off : Word16) (s : State) :
    ∃ t, execStxH d r off s = .next t ∧ Does s (.stxH d r off) t :=
  store_does _ _ rfl

theorem execStxW_does (d : Reg) (r : Reg) (off : Word16) (s : State) :
    ∃ t, execStxW d r off s = .next t ∧ Does s (.stxW d r off) t :=
  store_does _ _ rfl

theorem execStxDw_does (d : Reg) (r : Reg) (off : Word16) (s : State) :
    ∃ t, execStxDw d r off s = .next t ∧ Does s (.stxDw d r off) t :=
  store_does _ _ rfl

theorem execLdxsB_does (d : Reg) (r : Reg) (off : Word16) (s : State) :
    ∃ t, execLdxsB d r off s = .next t ∧ Does s (.ldxsB d r off) t :=
  load_does _ _ _ _ _ rfl

theorem execLdxsH_does (d : Reg) (r : Reg) (off : Word16) (s : State) :
    ∃ t, execLdxsH d r off s = .next t ∧ Does s (.ldxsH d r off) t :=
  load_does _ _ _ _ _ rfl

theorem execLdxsW_does (d : Reg) (r : Reg) (off : Word16) (s : State) :
    ∃ t, execLdxsW d r off s = .next t ∧ Does s (.ldxsW d r off) t :=
  load_does _ _ _ _ _ rfl

theorem execAtomic32Add_does (d : Reg) (r : Reg) (off : Word16) (s : State) :
    ∃ t, execAtomic32Add d r off s = .next t ∧ Does s (.atomic32Add d r off) t :=
  atomicPlain_does _ _ rfl

theorem execAtomic32FetchAdd_does (d : Reg) (r : Reg) (off : Word16) (s : State) :
    ∃ t, execAtomic32FetchAdd d r off s = .next t ∧ Does s (.atomic32FetchAdd d r off) t :=
  atomicFetch_does _ rfl rfl

theorem execAtomic32Or_does (d : Reg) (r : Reg) (off : Word16) (s : State) :
    ∃ t, execAtomic32Or d r off s = .next t ∧ Does s (.atomic32Or d r off) t :=
  atomicPlain_does _ _ rfl

theorem execAtomic32FetchOr_does (d : Reg) (r : Reg) (off : Word16) (s : State) :
    ∃ t, execAtomic32FetchOr d r off s = .next t ∧ Does s (.atomic32FetchOr d r off) t :=
  atomicFetch_does _ rfl rfl

theorem execAtomic32And_does (d : Reg) (r : Reg) (off : Word16) (s : State) :
    ∃ t, execAtomic32And d r off s = .next t ∧ Does s (.atomic32And d r off) t :=
  atomicPlain_does _ _ rfl

theorem execAtomic32FetchAnd_does (d : Reg) (r : Reg) (off : Word16) (s : State) :
    ∃ t, execAtomic32FetchAnd d r off s = .next t ∧ Does s (.atomic32FetchAnd d r off) t :=
  atomicFetch_does _ rfl rfl

theorem execAtomic32Xor_does (d : Reg) (r : Reg) (off : Word16) (s : State) :
    ∃ t, execAtomic32Xor d r off s = .next t ∧ Does s (.atomic32Xor d r off) t :=
  atomicPlain_does _ _ rfl

theorem execAtomic32FetchXor_does (d : Reg) (r : Reg) (off : Word16) (s : State) :
    ∃ t, execAtomic32FetchXor d r off s = .next t ∧ Does s (.atomic32FetchXor d r off) t :=
  atomicFetch_does _ rfl rfl

theorem execAtomic32Xchg_does (d : Reg) (r : Reg) (off : Word16) (s : State) :
    ∃ t, execAtomic32Xchg d r off s = .next t ∧ Does s (.atomic32Xchg d r off) t :=
  atomicFetch_does _ rfl rfl

theorem execAtomic32Cmpxchg_does (d : Reg) (r : Reg) (off : Word16) (s : State) :
    ∃ t, execAtomic32Cmpxchg d r off s = .next t ∧ Does s (.atomic32Cmpxchg d r off) t :=
  atomicCmpxchg_does _ _ rfl rfl

theorem execAtomic64Add_does (d : Reg) (r : Reg) (off : Word16) (s : State) :
    ∃ t, execAtomic64Add d r off s = .next t ∧ Does s (.atomic64Add d r off) t :=
  atomicPlain_does _ _ rfl

theorem execAtomic64FetchAdd_does (d : Reg) (r : Reg) (off : Word16) (s : State) :
    ∃ t, execAtomic64FetchAdd d r off s = .next t ∧ Does s (.atomic64FetchAdd d r off) t :=
  atomicFetch_does _ rfl rfl

theorem execAtomic64Or_does (d : Reg) (r : Reg) (off : Word16) (s : State) :
    ∃ t, execAtomic64Or d r off s = .next t ∧ Does s (.atomic64Or d r off) t :=
  atomicPlain_does _ _ rfl

theorem execAtomic64FetchOr_does (d : Reg) (r : Reg) (off : Word16) (s : State) :
    ∃ t, execAtomic64FetchOr d r off s = .next t ∧ Does s (.atomic64FetchOr d r off) t :=
  atomicFetch_does _ rfl rfl

theorem execAtomic64And_does (d : Reg) (r : Reg) (off : Word16) (s : State) :
    ∃ t, execAtomic64And d r off s = .next t ∧ Does s (.atomic64And d r off) t :=
  atomicPlain_does _ _ rfl

theorem execAtomic64FetchAnd_does (d : Reg) (r : Reg) (off : Word16) (s : State) :
    ∃ t, execAtomic64FetchAnd d r off s = .next t ∧ Does s (.atomic64FetchAnd d r off) t :=
  atomicFetch_does _ rfl rfl

theorem execAtomic64Xor_does (d : Reg) (r : Reg) (off : Word16) (s : State) :
    ∃ t, execAtomic64Xor d r off s = .next t ∧ Does s (.atomic64Xor d r off) t :=
  atomicPlain_does _ _ rfl

theorem execAtomic64FetchXor_does (d : Reg) (r : Reg) (off : Word16) (s : State) :
    ∃ t, execAtomic64FetchXor d r off s = .next t ∧ Does s (.atomic64FetchXor d r off) t :=
  atomicFetch_does _ rfl rfl

theorem execAtomic64Xchg_does (d : Reg) (r : Reg) (off : Word16) (s : State) :
    ∃ t, execAtomic64Xchg d r off s = .next t ∧ Does s (.atomic64Xchg d r off) t :=
  atomicFetch_does _ rfl rfl

theorem execAtomic64Cmpxchg_does (d : Reg) (r : Reg) (off : Word16) (s : State) :
    ∃ t, execAtomic64Cmpxchg d r off s = .next t ∧ Does s (.atomic64Cmpxchg d r off) t :=
  atomicCmpxchg_does _ _ rfl rfl

theorem execLdImm64_does (d : Reg) (imm : Word32) (next : Word32) (s : State) :
    ∃ t, execLdImm64 d imm next s = .next t ∧ Does s (.ldImm64 d imm next) t :=
  writeObject_does s .code 0#32 (some (next ++ imm)) rfl

theorem execLdMapFd_does (d : Reg) (imm : Word32) (s : State) :
    ∃ t, execLdMapFd d imm s = .next t ∧ Does s (.ldMapFd d imm) t :=
  writeObject_does _ _ _ _ rfl

theorem execLdMapValFd_does (d : Reg) (imm : Word32) (next : Word32) (s : State) :
    ∃ t, execLdMapValFd d imm next s = .next t ∧ Does s (.ldMapValFd d imm next) t :=
  writeObject_does _ _ _ _ rfl

theorem execLdVarAddr_does (d : Reg) (imm : Word32) (s : State) :
    ∃ t, execLdVarAddr d imm s = .next t ∧ Does s (.ldVarAddr d imm) t :=
  writeObject_does _ _ _ _ rfl

theorem execLdCodeAddr_does (d : Reg) (imm : Word32) (s : State) :
    ∃ t, execLdCodeAddr d imm s = .next t ∧ Does s (.ldCodeAddr d imm) t :=
  writeObject_does _ _ _ _ rfl

theorem execLdMapIdx_does (d : Reg) (imm : Word32) (s : State) :
    ∃ t, execLdMapIdx d imm s = .next t ∧ Does s (.ldMapIdx d imm) t :=
  writeObject_does _ _ _ _ rfl

theorem execLdMapValIdx_does (d : Reg) (imm : Word32) (next : Word32) (s : State) :
    ∃ t, execLdMapValIdx d imm next s = .next t ∧ Does s (.ldMapValIdx d imm next) t :=
  writeObject_does _ _ _ _ rfl

theorem execLdAbsW_does (imm : Word32) (s : State) :
    ∃ t, execLdAbsW imm s = .next t ∧ Does s (.ldAbsW imm) t :=
  ⟨_, rfl, .raises _⟩

theorem execLdAbsH_does (imm : Word32) (s : State) :
    ∃ t, execLdAbsH imm s = .next t ∧ Does s (.ldAbsH imm) t :=
  ⟨_, rfl, .raises _⟩

theorem execLdAbsB_does (imm : Word32) (s : State) :
    ∃ t, execLdAbsB imm s = .next t ∧ Does s (.ldAbsB imm) t :=
  ⟨_, rfl, .raises _⟩

theorem execLdIndW_does (r : Reg) (imm : Word32) (s : State) :
    ∃ t, execLdIndW r imm s = .next t ∧ Does s (.ldIndW r imm) t :=
  ⟨_, rfl, .raises _⟩

theorem execLdIndH_does (r : Reg) (imm : Word32) (s : State) :
    ∃ t, execLdIndH r imm s = .next t ∧ Does s (.ldIndH r imm) t :=
  ⟨_, rfl, .raises _⟩

theorem execLdIndB_does (r : Reg) (imm : Word32) (s : State) :
    ∃ t, execLdIndB r imm s = .next t ∧ Does s (.ldIndB r imm) t :=
  ⟨_, rfl, .raises _⟩

/-- Executing an instruction answers a next state, and does one of the things `Does` lists. -/
theorem exec_does (i : Instr) (s : State) : ∃ t, exec i s = .next t ∧ Does s i t := by
  cases i with
  | add32K d imm => exact execAdd32K_does d imm s
  | add32X d r => exact execAdd32X_does d r s
  | sub32K d imm => exact execSub32K_does d imm s
  | sub32X d r => exact execSub32X_does d r s
  | mul32K d imm => exact execMul32K_does d imm s
  | mul32X d r => exact execMul32X_does d r s
  | div32K d imm => exact execDiv32K_does d imm s
  | div32X d r => exact execDiv32X_does d r s
  | sdiv32K d imm => exact execSdiv32K_does d imm s
  | sdiv32X d r => exact execSdiv32X_does d r s
  | or32K d imm => exact execOr32K_does d imm s
  | or32X d r => exact execOr32X_does d r s
  | and32K d imm => exact execAnd32K_does d imm s
  | and32X d r => exact execAnd32X_does d r s
  | lsh32K d imm => exact execLsh32K_does d imm s
  | lsh32X d r => exact execLsh32X_does d r s
  | rsh32K d imm => exact execRsh32K_does d imm s
  | rsh32X d r => exact execRsh32X_does d r s
  | neg32 d => exact execNeg32_does d s
  | mod32K d imm => exact execMod32K_does d imm s
  | mod32X d r => exact execMod32X_does d r s
  | smod32K d imm => exact execSmod32K_does d imm s
  | smod32X d r => exact execSmod32X_does d r s
  | xor32K d imm => exact execXor32K_does d imm s
  | xor32X d r => exact execXor32X_does d r s
  | mov32K d imm => exact execMov32K_does d imm s
  | mov32X d r => exact execMov32X_does d r s
  | movsx32From8 d r => exact execMovsx32From8_does d r s
  | movsx32From16 d r => exact execMovsx32From16_does d r s
  | arsh32K d imm => exact execArsh32K_does d imm s
  | arsh32X d r => exact execArsh32X_does d r s
  | add64K d imm => exact execAdd64K_does d imm s
  | add64X d r => exact execAdd64X_does d r s
  | sub64K d imm => exact execSub64K_does d imm s
  | sub64X d r => exact execSub64X_does d r s
  | mul64K d imm => exact execMul64K_does d imm s
  | mul64X d r => exact execMul64X_does d r s
  | div64K d imm => exact execDiv64K_does d imm s
  | div64X d r => exact execDiv64X_does d r s
  | sdiv64K d imm => exact execSdiv64K_does d imm s
  | sdiv64X d r => exact execSdiv64X_does d r s
  | or64K d imm => exact execOr64K_does d imm s
  | or64X d r => exact execOr64X_does d r s
  | and64K d imm => exact execAnd64K_does d imm s
  | and64X d r => exact execAnd64X_does d r s
  | lsh64K d imm => exact execLsh64K_does d imm s
  | lsh64X d r => exact execLsh64X_does d r s
  | rsh64K d imm => exact execRsh64K_does d imm s
  | rsh64X d r => exact execRsh64X_does d r s
  | neg64 d => exact execNeg64_does d s
  | mod64K d imm => exact execMod64K_does d imm s
  | mod64X d r => exact execMod64X_does d r s
  | smod64K d imm => exact execSmod64K_does d imm s
  | smod64X d r => exact execSmod64X_does d r s
  | xor64K d imm => exact execXor64K_does d imm s
  | xor64X d r => exact execXor64X_does d r s
  | mov64K d imm => exact execMov64K_does d imm s
  | mov64X d r => exact execMov64X_does d r s
  | movsx64From8 d r => exact execMovsx64From8_does d r s
  | movsx64From16 d r => exact execMovsx64From16_does d r s
  | movsx64From32 d r => exact execMovsx64From32_does d r s
  | arsh64K d imm => exact execArsh64K_does d imm s
  | arsh64X d r => exact execArsh64X_does d r s
  | le16 d => exact execLe16_does d s
  | le32 d => exact execLe32_does d s
  | le64 d => exact execLe64_does d s
  | be16 d => exact execBe16_does d s
  | be32 d => exact execBe32_does d s
  | be64 d => exact execBe64_does d s
  | bswap16 d => exact execBswap16_does d s
  | bswap32 d => exact execBswap32_does d s
  | bswap64 d => exact execBswap64_does d s
  | ja off => exact execJa_does off s
  | ja32 imm => exact execJa32_does imm s
  | jeq64K d imm off => exact execJeq64K_does d imm off s
  | jeq64X d r off => exact execJeq64X_does d r off s
  | jeq32K d imm off => exact execJeq32K_does d imm off s
  | jeq32X d r off => exact execJeq32X_does d r off s
  | jgt64K d imm off => exact execJgt64K_does d imm off s
  | jgt64X d r off => exact execJgt64X_does d r off s
  | jgt32K d imm off => exact execJgt32K_does d imm off s
  | jgt32X d r off => exact execJgt32X_does d r off s
  | jge64K d imm off => exact execJge64K_does d imm off s
  | jge64X d r off => exact execJge64X_does d r off s
  | jge32K d imm off => exact execJge32K_does d imm off s
  | jge32X d r off => exact execJge32X_does d r off s
  | jset64K d imm off => exact execJset64K_does d imm off s
  | jset64X d r off => exact execJset64X_does d r off s
  | jset32K d imm off => exact execJset32K_does d imm off s
  | jset32X d r off => exact execJset32X_does d r off s
  | jne64K d imm off => exact execJne64K_does d imm off s
  | jne64X d r off => exact execJne64X_does d r off s
  | jne32K d imm off => exact execJne32K_does d imm off s
  | jne32X d r off => exact execJne32X_does d r off s
  | jsgt64K d imm off => exact execJsgt64K_does d imm off s
  | jsgt64X d r off => exact execJsgt64X_does d r off s
  | jsgt32K d imm off => exact execJsgt32K_does d imm off s
  | jsgt32X d r off => exact execJsgt32X_does d r off s
  | jsge64K d imm off => exact execJsge64K_does d imm off s
  | jsge64X d r off => exact execJsge64X_does d r off s
  | jsge32K d imm off => exact execJsge32K_does d imm off s
  | jsge32X d r off => exact execJsge32X_does d r off s
  | jlt64K d imm off => exact execJlt64K_does d imm off s
  | jlt64X d r off => exact execJlt64X_does d r off s
  | jlt32K d imm off => exact execJlt32K_does d imm off s
  | jlt32X d r off => exact execJlt32X_does d r off s
  | jle64K d imm off => exact execJle64K_does d imm off s
  | jle64X d r off => exact execJle64X_does d r off s
  | jle32K d imm off => exact execJle32K_does d imm off s
  | jle32X d r off => exact execJle32X_does d r off s
  | jslt64K d imm off => exact execJslt64K_does d imm off s
  | jslt64X d r off => exact execJslt64X_does d r off s
  | jslt32K d imm off => exact execJslt32K_does d imm off s
  | jslt32X d r off => exact execJslt32X_does d r off s
  | jsle64K d imm off => exact execJsle64K_does d imm off s
  | jsle64X d r off => exact execJsle64X_does d r off s
  | jsle32K d imm off => exact execJsle32K_does d imm off s
  | jsle32X d r off => exact execJsle32X_does d r off s
  | callHelper imm => exact execCallHelper_does imm s
  | callLocal imm => exact execCallLocal_does imm s
  | callBtf imm => exact execCallBtf_does imm s
  | exit => exact execExit_does s
  | ldxB d r off => exact execLdxB_does d r off s
  | ldxH d r off => exact execLdxH_does d r off s
  | ldxW d r off => exact execLdxW_does d r off s
  | ldxDw d r off => exact execLdxDw_does d r off s
  | stB d imm off => exact execStB_does d imm off s
  | stH d imm off => exact execStH_does d imm off s
  | stW d imm off => exact execStW_does d imm off s
  | stDw d imm off => exact execStDw_does d imm off s
  | stxB d r off => exact execStxB_does d r off s
  | stxH d r off => exact execStxH_does d r off s
  | stxW d r off => exact execStxW_does d r off s
  | stxDw d r off => exact execStxDw_does d r off s
  | ldxsB d r off => exact execLdxsB_does d r off s
  | ldxsH d r off => exact execLdxsH_does d r off s
  | ldxsW d r off => exact execLdxsW_does d r off s
  | atomic32Add d r off => exact execAtomic32Add_does d r off s
  | atomic32FetchAdd d r off => exact execAtomic32FetchAdd_does d r off s
  | atomic32Or d r off => exact execAtomic32Or_does d r off s
  | atomic32FetchOr d r off => exact execAtomic32FetchOr_does d r off s
  | atomic32And d r off => exact execAtomic32And_does d r off s
  | atomic32FetchAnd d r off => exact execAtomic32FetchAnd_does d r off s
  | atomic32Xor d r off => exact execAtomic32Xor_does d r off s
  | atomic32FetchXor d r off => exact execAtomic32FetchXor_does d r off s
  | atomic32Xchg d r off => exact execAtomic32Xchg_does d r off s
  | atomic32Cmpxchg d r off => exact execAtomic32Cmpxchg_does d r off s
  | atomic64Add d r off => exact execAtomic64Add_does d r off s
  | atomic64FetchAdd d r off => exact execAtomic64FetchAdd_does d r off s
  | atomic64Or d r off => exact execAtomic64Or_does d r off s
  | atomic64FetchOr d r off => exact execAtomic64FetchOr_does d r off s
  | atomic64And d r off => exact execAtomic64And_does d r off s
  | atomic64FetchAnd d r off => exact execAtomic64FetchAnd_does d r off s
  | atomic64Xor d r off => exact execAtomic64Xor_does d r off s
  | atomic64FetchXor d r off => exact execAtomic64FetchXor_does d r off s
  | atomic64Xchg d r off => exact execAtomic64Xchg_does d r off s
  | atomic64Cmpxchg d r off => exact execAtomic64Cmpxchg_does d r off s
  | ldImm64 d imm next => exact execLdImm64_does d imm next s
  | ldMapFd d imm => exact execLdMapFd_does d imm s
  | ldMapValFd d imm next => exact execLdMapValFd_does d imm next s
  | ldVarAddr d imm => exact execLdVarAddr_does d imm s
  | ldCodeAddr d imm => exact execLdCodeAddr_does d imm s
  | ldMapIdx d imm => exact execLdMapIdx_does d imm s
  | ldMapValIdx d imm next => exact execLdMapValIdx_does d imm next s
  | ldAbsW imm => exact execLdAbsW_does imm s
  | ldAbsH imm => exact execLdAbsH_does imm s
  | ldAbsB imm => exact execLdAbsB_does imm s
  | ldIndW r imm => exact execLdIndW_does r imm s
  | ldIndH r imm => exact execLdIndH_does r imm s
  | ldIndB r imm => exact execLdIndB_does r imm s

end Sys2Proof.Machine
end

