-- ==== Sys2Proof/Laws/PerInstr.lean ====
section
/-! SUPPORT. Laws of the instructions as syntax, one lemma per constructor. -/

namespace Sys2Proof.Laws

/-- The decoder gives an instruction back from its own fields, under either strictness (30_encoding.md R86). -/
def RoundTrip.Statement (i : Instr) : Prop :=
  ∀ strict, decodeFields strict (encodeFields i).first (encodeFields i).second = .ok i

theorem RoundTrip.add32K (d : Reg) (imm : Word32) : RoundTrip.Statement (.add32K d imm) := fun strict => by
  show decodeFields strict { opcode := 0x04#8, dst := d.num, src := 0#4, offset := 0#16, imm := imm } none = _
  simp [decodeFields, cls_of 0x04#8 4 rfl, code_of 0x04#8 0 rfl, decodeAlu32, sourceX_of 0x04#8 false rfl, arith,
    formKX, formK_encoded]

theorem RoundTrip.add32X (d : Reg) (s : Reg) : RoundTrip.Statement (.add32X d s) := fun strict => by
  show decodeFields strict { opcode := 0x0c#8, dst := d.num, src := s.num, offset := 0#16, imm := 0#32 } none = _
  simp [decodeFields, cls_of 0x0c#8 4 rfl, code_of 0x0c#8 0 rfl, decodeAlu32, sourceX_of 0x0c#8 true rfl, arith,
    formKX, formX_encoded]

theorem RoundTrip.sub32K (d : Reg) (imm : Word32) : RoundTrip.Statement (.sub32K d imm) := fun strict => by
  show decodeFields strict { opcode := 0x14#8, dst := d.num, src := 0#4, offset := 0#16, imm := imm } none = _
  simp [decodeFields, cls_of 0x14#8 4 rfl, code_of 0x14#8 1 rfl, decodeAlu32, sourceX_of 0x14#8 false rfl, arith,
    formKX, formK_encoded]

theorem RoundTrip.sub32X (d : Reg) (s : Reg) : RoundTrip.Statement (.sub32X d s) := fun strict => by
  show decodeFields strict { opcode := 0x1c#8, dst := d.num, src := s.num, offset := 0#16, imm := 0#32 } none = _
  simp [decodeFields, cls_of 0x1c#8 4 rfl, code_of 0x1c#8 1 rfl, decodeAlu32, sourceX_of 0x1c#8 true rfl, arith,
    formKX, formX_encoded]

theorem RoundTrip.mul32K (d : Reg) (imm : Word32) : RoundTrip.Statement (.mul32K d imm) := fun strict => by
  show decodeFields strict { opcode := 0x24#8, dst := d.num, src := 0#4, offset := 0#16, imm := imm } none = _
  simp [decodeFields, cls_of 0x24#8 4 rfl, code_of 0x24#8 2 rfl, decodeAlu32, sourceX_of 0x24#8 false rfl, arith,
    formKX, formK_encoded]

theorem RoundTrip.mul32X (d : Reg) (s : Reg) : RoundTrip.Statement (.mul32X d s) := fun strict => by
  show decodeFields strict { opcode := 0x2c#8, dst := d.num, src := s.num, offset := 0#16, imm := 0#32 } none = _
  simp [decodeFields, cls_of 0x2c#8 4 rfl, code_of 0x2c#8 2 rfl, decodeAlu32, sourceX_of 0x2c#8 true rfl, arith,
    formKX, formX_encoded]

theorem RoundTrip.div32K (d : Reg) (imm : Word32) : RoundTrip.Statement (.div32K d imm) := fun strict => by
  show decodeFields strict { opcode := 0x34#8, dst := d.num, src := 0#4, offset := 0#16, imm := imm } none = _
  simp [decodeFields, cls_of 0x34#8 4 rfl, code_of 0x34#8 3 rfl, decodeAlu32, sourceX_of 0x34#8 false rfl,
    arithSigned, formKX, formK_encoded]

theorem RoundTrip.div32X (d : Reg) (s : Reg) : RoundTrip.Statement (.div32X d s) := fun strict => by
  show decodeFields strict { opcode := 0x3c#8, dst := d.num, src := s.num, offset := 0#16, imm := 0#32 } none = _
  simp [decodeFields, cls_of 0x3c#8 4 rfl, code_of 0x3c#8 3 rfl, decodeAlu32, sourceX_of 0x3c#8 true rfl,
    arithSigned, formKX, formX_encoded]

theorem RoundTrip.sdiv32K (d : Reg) (imm : Word32) : RoundTrip.Statement (.sdiv32K d imm) := fun strict => by
  show decodeFields strict { opcode := 0x34#8, dst := d.num, src := 0#4, offset := 1#16, imm := imm } none = _
  simp [decodeFields, cls_of 0x34#8 4 rfl, code_of 0x34#8 3 rfl, decodeAlu32, sourceX_of 0x34#8 false rfl,
    arithSigned, formKX, formK_encoded]

theorem RoundTrip.sdiv32X (d : Reg) (s : Reg) : RoundTrip.Statement (.sdiv32X d s) := fun strict => by
  show decodeFields strict { opcode := 0x3c#8, dst := d.num, src := s.num, offset := 1#16, imm := 0#32 } none = _
  simp [decodeFields, cls_of 0x3c#8 4 rfl, code_of 0x3c#8 3 rfl, decodeAlu32, sourceX_of 0x3c#8 true rfl,
    arithSigned, formKX, formX_encoded]

theorem RoundTrip.or32K (d : Reg) (imm : Word32) : RoundTrip.Statement (.or32K d imm) := fun strict => by
  show decodeFields strict { opcode := 0x44#8, dst := d.num, src := 0#4, offset := 0#16, imm := imm } none = _
  simp [decodeFields, cls_of 0x44#8 4 rfl, code_of 0x44#8 4 rfl, decodeAlu32, sourceX_of 0x44#8 false rfl, arith,
    formKX, formK_encoded]

theorem RoundTrip.or32X (d : Reg) (s : Reg) : RoundTrip.Statement (.or32X d s) := fun strict => by
  show decodeFields strict { opcode := 0x4c#8, dst := d.num, src := s.num, offset := 0#16, imm := 0#32 } none = _
  simp [decodeFields, cls_of 0x4c#8 4 rfl, code_of 0x4c#8 4 rfl, decodeAlu32, sourceX_of 0x4c#8 true rfl, arith,
    formKX, formX_encoded]

theorem RoundTrip.and32K (d : Reg) (imm : Word32) : RoundTrip.Statement (.and32K d imm) := fun strict => by
  show decodeFields strict { opcode := 0x54#8, dst := d.num, src := 0#4, offset := 0#16, imm := imm } none = _
  simp [decodeFields, cls_of 0x54#8 4 rfl, code_of 0x54#8 5 rfl, decodeAlu32, sourceX_of 0x54#8 false rfl, arith,
    formKX, formK_encoded]

theorem RoundTrip.and32X (d : Reg) (s : Reg) : RoundTrip.Statement (.and32X d s) := fun strict => by
  show decodeFields strict { opcode := 0x5c#8, dst := d.num, src := s.num, offset := 0#16, imm := 0#32 } none = _
  simp [decodeFields, cls_of 0x5c#8 4 rfl, code_of 0x5c#8 5 rfl, decodeAlu32, sourceX_of 0x5c#8 true rfl, arith,
    formKX, formX_encoded]

theorem RoundTrip.lsh32K (d : Reg) (imm : Word32) : RoundTrip.Statement (.lsh32K d imm) := fun strict => by
  show decodeFields strict { opcode := 0x64#8, dst := d.num, src := 0#4, offset := 0#16, imm := imm } none = _
  simp [decodeFields, cls_of 0x64#8 4 rfl, code_of 0x64#8 6 rfl, decodeAlu32, sourceX_of 0x64#8 false rfl, arith,
    formKX, formK_encoded]

theorem RoundTrip.lsh32X (d : Reg) (s : Reg) : RoundTrip.Statement (.lsh32X d s) := fun strict => by
  show decodeFields strict { opcode := 0x6c#8, dst := d.num, src := s.num, offset := 0#16, imm := 0#32 } none = _
  simp [decodeFields, cls_of 0x6c#8 4 rfl, code_of 0x6c#8 6 rfl, decodeAlu32, sourceX_of 0x6c#8 true rfl, arith,
    formKX, formX_encoded]

theorem RoundTrip.rsh32K (d : Reg) (imm : Word32) : RoundTrip.Statement (.rsh32K d imm) := fun strict => by
  show decodeFields strict { opcode := 0x74#8, dst := d.num, src := 0#4, offset := 0#16, imm := imm } none = _
  simp [decodeFields, cls_of 0x74#8 4 rfl, code_of 0x74#8 7 rfl, decodeAlu32, sourceX_of 0x74#8 false rfl, arith,
    formKX, formK_encoded]

theorem RoundTrip.rsh32X (d : Reg) (s : Reg) : RoundTrip.Statement (.rsh32X d s) := fun strict => by
  show decodeFields strict { opcode := 0x7c#8, dst := d.num, src := s.num, offset := 0#16, imm := 0#32 } none = _
  simp [decodeFields, cls_of 0x7c#8 4 rfl, code_of 0x7c#8 7 rfl, decodeAlu32, sourceX_of 0x7c#8 true rfl, arith,
    formKX, formX_encoded]

theorem RoundTrip.neg32 (d : Reg) : RoundTrip.Statement (.neg32 d) := fun strict => by
  show decodeFields strict { opcode := 0x84#8, dst := d.num, src := 0#4, offset := 0#16, imm := 0#32 } none = _
  simp [decodeFields, cls_of 0x84#8 4 rfl, code_of 0x84#8 8 rfl, decodeAlu32, sourceX_of 0x84#8 false rfl, negate,
    needUnused, withDst_encoded]

theorem RoundTrip.mod32K (d : Reg) (imm : Word32) : RoundTrip.Statement (.mod32K d imm) := fun strict => by
  show decodeFields strict { opcode := 0x94#8, dst := d.num, src := 0#4, offset := 0#16, imm := imm } none = _
  simp [decodeFields, cls_of 0x94#8 4 rfl, code_of 0x94#8 9 rfl, decodeAlu32, sourceX_of 0x94#8 false rfl,
    arithSigned, formKX, formK_encoded]

theorem RoundTrip.mod32X (d : Reg) (s : Reg) : RoundTrip.Statement (.mod32X d s) := fun strict => by
  show decodeFields strict { opcode := 0x9c#8, dst := d.num, src := s.num, offset := 0#16, imm := 0#32 } none = _
  simp [decodeFields, cls_of 0x9c#8 4 rfl, code_of 0x9c#8 9 rfl, decodeAlu32, sourceX_of 0x9c#8 true rfl,
    arithSigned, formKX, formX_encoded]

theorem RoundTrip.smod32K (d : Reg) (imm : Word32) : RoundTrip.Statement (.smod32K d imm) := fun strict => by
  show decodeFields strict { opcode := 0x94#8, dst := d.num, src := 0#4, offset := 1#16, imm := imm } none = _
  simp [decodeFields, cls_of 0x94#8 4 rfl, code_of 0x94#8 9 rfl, decodeAlu32, sourceX_of 0x94#8 false rfl,
    arithSigned, formKX, formK_encoded]

theorem RoundTrip.smod32X (d : Reg) (s : Reg) : RoundTrip.Statement (.smod32X d s) := fun strict => by
  show decodeFields strict { opcode := 0x9c#8, dst := d.num, src := s.num, offset := 1#16, imm := 0#32 } none = _
  simp [decodeFields, cls_of 0x9c#8 4 rfl, code_of 0x9c#8 9 rfl, decodeAlu32, sourceX_of 0x9c#8 true rfl,
    arithSigned, formKX, formX_encoded]

theorem RoundTrip.xor32K (d : Reg) (imm : Word32) : RoundTrip.Statement (.xor32K d imm) := fun strict => by
  show decodeFields strict { opcode := 0xa4#8, dst := d.num, src := 0#4, offset := 0#16, imm := imm } none = _
  simp [decodeFields, cls_of 0xa4#8 4 rfl, code_of 0xa4#8 10 rfl, decodeAlu32, sourceX_of 0xa4#8 false rfl, arith,
    formKX, formK_encoded]

theorem RoundTrip.xor32X (d : Reg) (s : Reg) : RoundTrip.Statement (.xor32X d s) := fun strict => by
  show decodeFields strict { opcode := 0xac#8, dst := d.num, src := s.num, offset := 0#16, imm := 0#32 } none = _
  simp [decodeFields, cls_of 0xac#8 4 rfl, code_of 0xac#8 10 rfl, decodeAlu32, sourceX_of 0xac#8 true rfl, arith,
    formKX, formX_encoded]

theorem RoundTrip.mov32K (d : Reg) (imm : Word32) : RoundTrip.Statement (.mov32K d imm) := fun strict => by
  show decodeFields strict { opcode := 0xb4#8, dst := d.num, src := 0#4, offset := 0#16, imm := imm } none = _
  simp [decodeFields, cls_of 0xb4#8 4 rfl, code_of 0xb4#8 11 rfl, decodeAlu32, sourceX_of 0xb4#8 false rfl, formKX,
    formK_encoded]

theorem RoundTrip.mov32X (d : Reg) (s : Reg) : RoundTrip.Statement (.mov32X d s) := fun strict => by
  show decodeFields strict { opcode := 0xbc#8, dst := d.num, src := s.num, offset := 0#16, imm := 0#32 } none = _
  simp [decodeFields, cls_of 0xbc#8 4 rfl, code_of 0xbc#8 11 rfl, decodeAlu32, sourceX_of 0xbc#8 true rfl, formKX,
    formX_encoded]

theorem RoundTrip.movsx32From8 (d : Reg) (s : Reg) : RoundTrip.Statement (.movsx32From8 d s) := fun strict => by
  show decodeFields strict { opcode := 0xbc#8, dst := d.num, src := s.num, offset := 8#16, imm := 0#32 } none = _
  simp [decodeFields, cls_of 0xbc#8 4 rfl, code_of 0xbc#8 11 rfl, decodeAlu32, sourceX_of 0xbc#8 true rfl,
    formX_encoded]

theorem RoundTrip.movsx32From16 (d : Reg) (s : Reg) : RoundTrip.Statement (.movsx32From16 d s) := fun strict => by
  show decodeFields strict { opcode := 0xbc#8, dst := d.num, src := s.num, offset := 16#16, imm := 0#32 } none = _
  simp [decodeFields, cls_of 0xbc#8 4 rfl, code_of 0xbc#8 11 rfl, decodeAlu32, sourceX_of 0xbc#8 true rfl,
    formX_encoded]

theorem RoundTrip.arsh32K (d : Reg) (imm : Word32) : RoundTrip.Statement (.arsh32K d imm) := fun strict => by
  show decodeFields strict { opcode := 0xc4#8, dst := d.num, src := 0#4, offset := 0#16, imm := imm } none = _
  simp [decodeFields, cls_of 0xc4#8 4 rfl, code_of 0xc4#8 12 rfl, decodeAlu32, sourceX_of 0xc4#8 false rfl, arith,
    formKX, formK_encoded]

theorem RoundTrip.arsh32X (d : Reg) (s : Reg) : RoundTrip.Statement (.arsh32X d s) := fun strict => by
  show decodeFields strict { opcode := 0xcc#8, dst := d.num, src := s.num, offset := 0#16, imm := 0#32 } none = _
  simp [decodeFields, cls_of 0xcc#8 4 rfl, code_of 0xcc#8 12 rfl, decodeAlu32, sourceX_of 0xcc#8 true rfl, arith,
    formKX, formX_encoded]

theorem RoundTrip.add64K (d : Reg) (imm : Word32) : RoundTrip.Statement (.add64K d imm) := fun strict => by
  show decodeFields strict { opcode := 0x07#8, dst := d.num, src := 0#4, offset := 0#16, imm := imm } none = _
  simp [decodeFields, cls_of 0x07#8 7 rfl, code_of 0x07#8 0 rfl, decodeAlu64, sourceX_of 0x07#8 false rfl, arith,
    formKX, formK_encoded]

theorem RoundTrip.add64X (d : Reg) (s : Reg) : RoundTrip.Statement (.add64X d s) := fun strict => by
  show decodeFields strict { opcode := 0x0f#8, dst := d.num, src := s.num, offset := 0#16, imm := 0#32 } none = _
  simp [decodeFields, cls_of 0x0f#8 7 rfl, code_of 0x0f#8 0 rfl, decodeAlu64, sourceX_of 0x0f#8 true rfl, arith,
    formKX, formX_encoded]

theorem RoundTrip.sub64K (d : Reg) (imm : Word32) : RoundTrip.Statement (.sub64K d imm) := fun strict => by
  show decodeFields strict { opcode := 0x17#8, dst := d.num, src := 0#4, offset := 0#16, imm := imm } none = _
  simp [decodeFields, cls_of 0x17#8 7 rfl, code_of 0x17#8 1 rfl, decodeAlu64, sourceX_of 0x17#8 false rfl, arith,
    formKX, formK_encoded]

theorem RoundTrip.sub64X (d : Reg) (s : Reg) : RoundTrip.Statement (.sub64X d s) := fun strict => by
  show decodeFields strict { opcode := 0x1f#8, dst := d.num, src := s.num, offset := 0#16, imm := 0#32 } none = _
  simp [decodeFields, cls_of 0x1f#8 7 rfl, code_of 0x1f#8 1 rfl, decodeAlu64, sourceX_of 0x1f#8 true rfl, arith,
    formKX, formX_encoded]

theorem RoundTrip.mul64K (d : Reg) (imm : Word32) : RoundTrip.Statement (.mul64K d imm) := fun strict => by
  show decodeFields strict { opcode := 0x27#8, dst := d.num, src := 0#4, offset := 0#16, imm := imm } none = _
  simp [decodeFields, cls_of 0x27#8 7 rfl, code_of 0x27#8 2 rfl, decodeAlu64, sourceX_of 0x27#8 false rfl, arith,
    formKX, formK_encoded]

theorem RoundTrip.mul64X (d : Reg) (s : Reg) : RoundTrip.Statement (.mul64X d s) := fun strict => by
  show decodeFields strict { opcode := 0x2f#8, dst := d.num, src := s.num, offset := 0#16, imm := 0#32 } none = _
  simp [decodeFields, cls_of 0x2f#8 7 rfl, code_of 0x2f#8 2 rfl, decodeAlu64, sourceX_of 0x2f#8 true rfl, arith,
    formKX, formX_encoded]

theorem RoundTrip.div64K (d : Reg) (imm : Word32) : RoundTrip.Statement (.div64K d imm) := fun strict => by
  show decodeFields strict { opcode := 0x37#8, dst := d.num, src := 0#4, offset := 0#16, imm := imm } none = _
  simp [decodeFields, cls_of 0x37#8 7 rfl, code_of 0x37#8 3 rfl, decodeAlu64, sourceX_of 0x37#8 false rfl,
    arithSigned, formKX, formK_encoded]

theorem RoundTrip.div64X (d : Reg) (s : Reg) : RoundTrip.Statement (.div64X d s) := fun strict => by
  show decodeFields strict { opcode := 0x3f#8, dst := d.num, src := s.num, offset := 0#16, imm := 0#32 } none = _
  simp [decodeFields, cls_of 0x3f#8 7 rfl, code_of 0x3f#8 3 rfl, decodeAlu64, sourceX_of 0x3f#8 true rfl,
    arithSigned, formKX, formX_encoded]

theorem RoundTrip.sdiv64K (d : Reg) (imm : Word32) : RoundTrip.Statement (.sdiv64K d imm) := fun strict => by
  show decodeFields strict { opcode := 0x37#8, dst := d.num, src := 0#4, offset := 1#16, imm := imm } none = _
  simp [decodeFields, cls_of 0x37#8 7 rfl, code_of 0x37#8 3 rfl, decodeAlu64, sourceX_of 0x37#8 false rfl,
    arithSigned, formKX, formK_encoded]

theorem RoundTrip.sdiv64X (d : Reg) (s : Reg) : RoundTrip.Statement (.sdiv64X d s) := fun strict => by
  show decodeFields strict { opcode := 0x3f#8, dst := d.num, src := s.num, offset := 1#16, imm := 0#32 } none = _
  simp [decodeFields, cls_of 0x3f#8 7 rfl, code_of 0x3f#8 3 rfl, decodeAlu64, sourceX_of 0x3f#8 true rfl,
    arithSigned, formKX, formX_encoded]

theorem RoundTrip.or64K (d : Reg) (imm : Word32) : RoundTrip.Statement (.or64K d imm) := fun strict => by
  show decodeFields strict { opcode := 0x47#8, dst := d.num, src := 0#4, offset := 0#16, imm := imm } none = _
  simp [decodeFields, cls_of 0x47#8 7 rfl, code_of 0x47#8 4 rfl, decodeAlu64, sourceX_of 0x47#8 false rfl, arith,
    formKX, formK_encoded]

theorem RoundTrip.or64X (d : Reg) (s : Reg) : RoundTrip.Statement (.or64X d s) := fun strict => by
  show decodeFields strict { opcode := 0x4f#8, dst := d.num, src := s.num, offset := 0#16, imm := 0#32 } none = _
  simp [decodeFields, cls_of 0x4f#8 7 rfl, code_of 0x4f#8 4 rfl, decodeAlu64, sourceX_of 0x4f#8 true rfl, arith,
    formKX, formX_encoded]

theorem RoundTrip.and64K (d : Reg) (imm : Word32) : RoundTrip.Statement (.and64K d imm) := fun strict => by
  show decodeFields strict { opcode := 0x57#8, dst := d.num, src := 0#4, offset := 0#16, imm := imm } none = _
  simp [decodeFields, cls_of 0x57#8 7 rfl, code_of 0x57#8 5 rfl, decodeAlu64, sourceX_of 0x57#8 false rfl, arith,
    formKX, formK_encoded]

theorem RoundTrip.and64X (d : Reg) (s : Reg) : RoundTrip.Statement (.and64X d s) := fun strict => by
  show decodeFields strict { opcode := 0x5f#8, dst := d.num, src := s.num, offset := 0#16, imm := 0#32 } none = _
  simp [decodeFields, cls_of 0x5f#8 7 rfl, code_of 0x5f#8 5 rfl, decodeAlu64, sourceX_of 0x5f#8 true rfl, arith,
    formKX, formX_encoded]

theorem RoundTrip.lsh64K (d : Reg) (imm : Word32) : RoundTrip.Statement (.lsh64K d imm) := fun strict => by
  show decodeFields strict { opcode := 0x67#8, dst := d.num, src := 0#4, offset := 0#16, imm := imm } none = _
  simp [decodeFields, cls_of 0x67#8 7 rfl, code_of 0x67#8 6 rfl, decodeAlu64, sourceX_of 0x67#8 false rfl, arith,
    formKX, formK_encoded]

theorem RoundTrip.lsh64X (d : Reg) (s : Reg) : RoundTrip.Statement (.lsh64X d s) := fun strict => by
  show decodeFields strict { opcode := 0x6f#8, dst := d.num, src := s.num, offset := 0#16, imm := 0#32 } none = _
  simp [decodeFields, cls_of 0x6f#8 7 rfl, code_of 0x6f#8 6 rfl, decodeAlu64, sourceX_of 0x6f#8 true rfl, arith,
    formKX, formX_encoded]

theorem RoundTrip.rsh64K (d : Reg) (imm : Word32) : RoundTrip.Statement (.rsh64K d imm) := fun strict => by
  show decodeFields strict { opcode := 0x77#8, dst := d.num, src := 0#4, offset := 0#16, imm := imm } none = _
  simp [decodeFields, cls_of 0x77#8 7 rfl, code_of 0x77#8 7 rfl, decodeAlu64, sourceX_of 0x77#8 false rfl, arith,
    formKX, formK_encoded]

theorem RoundTrip.rsh64X (d : Reg) (s : Reg) : RoundTrip.Statement (.rsh64X d s) := fun strict => by
  show decodeFields strict { opcode := 0x7f#8, dst := d.num, src := s.num, offset := 0#16, imm := 0#32 } none = _
  simp [decodeFields, cls_of 0x7f#8 7 rfl, code_of 0x7f#8 7 rfl, decodeAlu64, sourceX_of 0x7f#8 true rfl, arith,
    formKX, formX_encoded]

theorem RoundTrip.neg64 (d : Reg) : RoundTrip.Statement (.neg64 d) := fun strict => by
  show decodeFields strict { opcode := 0x87#8, dst := d.num, src := 0#4, offset := 0#16, imm := 0#32 } none = _
  simp [decodeFields, cls_of 0x87#8 7 rfl, code_of 0x87#8 8 rfl, decodeAlu64, sourceX_of 0x87#8 false rfl, negate,
    needUnused, withDst_encoded]

theorem RoundTrip.mod64K (d : Reg) (imm : Word32) : RoundTrip.Statement (.mod64K d imm) := fun strict => by
  show decodeFields strict { opcode := 0x97#8, dst := d.num, src := 0#4, offset := 0#16, imm := imm } none = _
  simp [decodeFields, cls_of 0x97#8 7 rfl, code_of 0x97#8 9 rfl, decodeAlu64, sourceX_of 0x97#8 false rfl,
    arithSigned, formKX, formK_encoded]

theorem RoundTrip.mod64X (d : Reg) (s : Reg) : RoundTrip.Statement (.mod64X d s) := fun strict => by
  show decodeFields strict { opcode := 0x9f#8, dst := d.num, src := s.num, offset := 0#16, imm := 0#32 } none = _
  simp [decodeFields, cls_of 0x9f#8 7 rfl, code_of 0x9f#8 9 rfl, decodeAlu64, sourceX_of 0x9f#8 true rfl,
    arithSigned, formKX, formX_encoded]

theorem RoundTrip.smod64K (d : Reg) (imm : Word32) : RoundTrip.Statement (.smod64K d imm) := fun strict => by
  show decodeFields strict { opcode := 0x97#8, dst := d.num, src := 0#4, offset := 1#16, imm := imm } none = _
  simp [decodeFields, cls_of 0x97#8 7 rfl, code_of 0x97#8 9 rfl, decodeAlu64, sourceX_of 0x97#8 false rfl,
    arithSigned, formKX, formK_encoded]

theorem RoundTrip.smod64X (d : Reg) (s : Reg) : RoundTrip.Statement (.smod64X d s) := fun strict => by
  show decodeFields strict { opcode := 0x9f#8, dst := d.num, src := s.num, offset := 1#16, imm := 0#32 } none = _
  simp [decodeFields, cls_of 0x9f#8 7 rfl, code_of 0x9f#8 9 rfl, decodeAlu64, sourceX_of 0x9f#8 true rfl,
    arithSigned, formKX, formX_encoded]

theorem RoundTrip.xor64K (d : Reg) (imm : Word32) : RoundTrip.Statement (.xor64K d imm) := fun strict => by
  show decodeFields strict { opcode := 0xa7#8, dst := d.num, src := 0#4, offset := 0#16, imm := imm } none = _
  simp [decodeFields, cls_of 0xa7#8 7 rfl, code_of 0xa7#8 10 rfl, decodeAlu64, sourceX_of 0xa7#8 false rfl, arith,
    formKX, formK_encoded]

theorem RoundTrip.xor64X (d : Reg) (s : Reg) : RoundTrip.Statement (.xor64X d s) := fun strict => by
  show decodeFields strict { opcode := 0xaf#8, dst := d.num, src := s.num, offset := 0#16, imm := 0#32 } none = _
  simp [decodeFields, cls_of 0xaf#8 7 rfl, code_of 0xaf#8 10 rfl, decodeAlu64, sourceX_of 0xaf#8 true rfl, arith,
    formKX, formX_encoded]

theorem RoundTrip.mov64K (d : Reg) (imm : Word32) : RoundTrip.Statement (.mov64K d imm) := fun strict => by
  show decodeFields strict { opcode := 0xb7#8, dst := d.num, src := 0#4, offset := 0#16, imm := imm } none = _
  simp [decodeFields, cls_of 0xb7#8 7 rfl, code_of 0xb7#8 11 rfl, decodeAlu64, sourceX_of 0xb7#8 false rfl, formKX,
    formK_encoded]

theorem RoundTrip.mov64X (d : Reg) (s : Reg) : RoundTrip.Statement (.mov64X d s) := fun strict => by
  show decodeFields strict { opcode := 0xbf#8, dst := d.num, src := s.num, offset := 0#16, imm := 0#32 } none = _
  simp [decodeFields, cls_of 0xbf#8 7 rfl, code_of 0xbf#8 11 rfl, decodeAlu64, sourceX_of 0xbf#8 true rfl, formKX,
    formX_encoded]

theorem RoundTrip.movsx64From8 (d : Reg) (s : Reg) : RoundTrip.Statement (.movsx64From8 d s) := fun strict => by
  show decodeFields strict { opcode := 0xbf#8, dst := d.num, src := s.num, offset := 8#16, imm := 0#32 } none = _
  simp [decodeFields, cls_of 0xbf#8 7 rfl, code_of 0xbf#8 11 rfl, decodeAlu64, sourceX_of 0xbf#8 true rfl,
    formX_encoded]

theorem RoundTrip.movsx64From16 (d : Reg) (s : Reg) : RoundTrip.Statement (.movsx64From16 d s) := fun strict => by
  show decodeFields strict { opcode := 0xbf#8, dst := d.num, src := s.num, offset := 16#16, imm := 0#32 } none = _
  simp [decodeFields, cls_of 0xbf#8 7 rfl, code_of 0xbf#8 11 rfl, decodeAlu64, sourceX_of 0xbf#8 true rfl,
    formX_encoded]

theorem RoundTrip.movsx64From32 (d : Reg) (s : Reg) : RoundTrip.Statement (.movsx64From32 d s) := fun strict => by
  show decodeFields strict { opcode := 0xbf#8, dst := d.num, src := s.num, offset := 32#16, imm := 0#32 } none = _
  simp [decodeFields, cls_of 0xbf#8 7 rfl, code_of 0xbf#8 11 rfl, decodeAlu64, sourceX_of 0xbf#8 true rfl,
    formX_encoded]

theorem RoundTrip.arsh64K (d : Reg) (imm : Word32) : RoundTrip.Statement (.arsh64K d imm) := fun strict => by
  show decodeFields strict { opcode := 0xc7#8, dst := d.num, src := 0#4, offset := 0#16, imm := imm } none = _
  simp [decodeFields, cls_of 0xc7#8 7 rfl, code_of 0xc7#8 12 rfl, decodeAlu64, sourceX_of 0xc7#8 false rfl, arith,
    formKX, formK_encoded]

theorem RoundTrip.arsh64X (d : Reg) (s : Reg) : RoundTrip.Statement (.arsh64X d s) := fun strict => by
  show decodeFields strict { opcode := 0xcf#8, dst := d.num, src := s.num, offset := 0#16, imm := 0#32 } none = _
  simp [decodeFields, cls_of 0xcf#8 7 rfl, code_of 0xcf#8 12 rfl, decodeAlu64, sourceX_of 0xcf#8 true rfl, arith,
    formKX, formX_encoded]

theorem RoundTrip.le16 (d : Reg) : RoundTrip.Statement (.le16 d) := fun strict => by
  show decodeFields strict { opcode := 0xd4#8, dst := d.num, src := 0#4, offset := 0#16, imm := 0x10#32 } none = _
  simp [decodeFields, cls_of 0xd4#8 4 rfl, code_of 0xd4#8 13 rfl, decodeAlu32, sourceX_of 0xd4#8 false rfl, swap,
    needUnused, withDst_encoded]

theorem RoundTrip.le32 (d : Reg) : RoundTrip.Statement (.le32 d) := fun strict => by
  show decodeFields strict { opcode := 0xd4#8, dst := d.num, src := 0#4, offset := 0#16, imm := 0x20#32 } none = _
  simp [decodeFields, cls_of 0xd4#8 4 rfl, code_of 0xd4#8 13 rfl, decodeAlu32, sourceX_of 0xd4#8 false rfl, swap,
    needUnused, withDst_encoded]

theorem RoundTrip.le64 (d : Reg) : RoundTrip.Statement (.le64 d) := fun strict => by
  show decodeFields strict { opcode := 0xd4#8, dst := d.num, src := 0#4, offset := 0#16, imm := 0x40#32 } none = _
  simp [decodeFields, cls_of 0xd4#8 4 rfl, code_of 0xd4#8 13 rfl, decodeAlu32, sourceX_of 0xd4#8 false rfl, swap,
    needUnused, withDst_encoded]

theorem RoundTrip.be16 (d : Reg) : RoundTrip.Statement (.be16 d) := fun strict => by
  show decodeFields strict { opcode := 0xdc#8, dst := d.num, src := 0#4, offset := 0#16, imm := 0x10#32 } none = _
  simp [decodeFields, cls_of 0xdc#8 4 rfl, code_of 0xdc#8 13 rfl, decodeAlu32, sourceX_of 0xdc#8 true rfl, swap,
    needUnused, withDst_encoded]

theorem RoundTrip.be32 (d : Reg) : RoundTrip.Statement (.be32 d) := fun strict => by
  show decodeFields strict { opcode := 0xdc#8, dst := d.num, src := 0#4, offset := 0#16, imm := 0x20#32 } none = _
  simp [decodeFields, cls_of 0xdc#8 4 rfl, code_of 0xdc#8 13 rfl, decodeAlu32, sourceX_of 0xdc#8 true rfl, swap,
    needUnused, withDst_encoded]

theorem RoundTrip.be64 (d : Reg) : RoundTrip.Statement (.be64 d) := fun strict => by
  show decodeFields strict { opcode := 0xdc#8, dst := d.num, src := 0#4, offset := 0#16, imm := 0x40#32 } none = _
  simp [decodeFields, cls_of 0xdc#8 4 rfl, code_of 0xdc#8 13 rfl, decodeAlu32, sourceX_of 0xdc#8 true rfl, swap,
    needUnused, withDst_encoded]

theorem RoundTrip.bswap16 (d : Reg) : RoundTrip.Statement (.bswap16 d) := fun strict => by
  show decodeFields strict { opcode := 0xd7#8, dst := d.num, src := 0#4, offset := 0#16, imm := 0x10#32 } none = _
  simp [decodeFields, cls_of 0xd7#8 7 rfl, code_of 0xd7#8 13 rfl, decodeAlu64, sourceX_of 0xd7#8 false rfl, swap,
    needUnused, withDst_encoded]

theorem RoundTrip.bswap32 (d : Reg) : RoundTrip.Statement (.bswap32 d) := fun strict => by
  show decodeFields strict { opcode := 0xd7#8, dst := d.num, src := 0#4, offset := 0#16, imm := 0x20#32 } none = _
  simp [decodeFields, cls_of 0xd7#8 7 rfl, code_of 0xd7#8 13 rfl, decodeAlu64, sourceX_of 0xd7#8 false rfl, swap,
    needUnused, withDst_encoded]

theorem RoundTrip.bswap64 (d : Reg) : RoundTrip.Statement (.bswap64 d) := fun strict => by
  show decodeFields strict { opcode := 0xd7#8, dst := d.num, src := 0#4, offset := 0#16, imm := 0x40#32 } none = _
  simp [decodeFields, cls_of 0xd7#8 7 rfl, code_of 0xd7#8 13 rfl, decodeAlu64, sourceX_of 0xd7#8 false rfl, swap,
    needUnused, withDst_encoded]

theorem RoundTrip.ja (off : Word16) : RoundTrip.Statement (.ja off) := fun strict => by
  show decodeFields strict { opcode := 0x05#8, dst := 0#4, src := 0#4, offset := off, imm := 0#32 } none = _
  simp [decodeFields, cls_of 0x05#8 5 rfl, code_of 0x05#8 0 rfl, decodeJmp, sourceX_of 0x05#8 false rfl, needUnused]

theorem RoundTrip.ja32 (imm : Word32) : RoundTrip.Statement (.ja32 imm) := fun strict => by
  show decodeFields strict { opcode := 0x06#8, dst := 0#4, src := 0#4, offset := 0#16, imm := imm } none = _
  simp [decodeFields, cls_of 0x06#8 6 rfl, code_of 0x06#8 0 rfl, decodeJmp32, sourceX_of 0x06#8 false rfl, needUnused]

theorem RoundTrip.jeq64K (d : Reg) (imm : Word32) (off : Word16) : RoundTrip.Statement (.jeq64K d imm off) := fun strict => by
  show decodeFields strict { opcode := 0x15#8, dst := d.num, src := 0#4, offset := off, imm := imm } none = _
  simp [decodeFields, cls_of 0x15#8 5 rfl, code_of 0x15#8 1 rfl, decodeJmp, sourceX_of 0x15#8 false rfl, condJump,
    formKX, formK_encoded]

theorem RoundTrip.jeq64X (d : Reg) (s : Reg) (off : Word16) : RoundTrip.Statement (.jeq64X d s off) := fun strict => by
  show decodeFields strict { opcode := 0x1d#8, dst := d.num, src := s.num, offset := off, imm := 0#32 } none = _
  simp [decodeFields, cls_of 0x1d#8 5 rfl, code_of 0x1d#8 1 rfl, decodeJmp, sourceX_of 0x1d#8 true rfl, condJump,
    formKX, formX_encoded]

theorem RoundTrip.jeq32K (d : Reg) (imm : Word32) (off : Word16) : RoundTrip.Statement (.jeq32K d imm off) := fun strict => by
  show decodeFields strict { opcode := 0x16#8, dst := d.num, src := 0#4, offset := off, imm := imm } none = _
  simp [decodeFields, cls_of 0x16#8 6 rfl, code_of 0x16#8 1 rfl, decodeJmp32, sourceX_of 0x16#8 false rfl, condJump,
    formKX, formK_encoded]

theorem RoundTrip.jeq32X (d : Reg) (s : Reg) (off : Word16) : RoundTrip.Statement (.jeq32X d s off) := fun strict => by
  show decodeFields strict { opcode := 0x1e#8, dst := d.num, src := s.num, offset := off, imm := 0#32 } none = _
  simp [decodeFields, cls_of 0x1e#8 6 rfl, code_of 0x1e#8 1 rfl, decodeJmp32, sourceX_of 0x1e#8 true rfl, condJump,
    formKX, formX_encoded]

theorem RoundTrip.jgt64K (d : Reg) (imm : Word32) (off : Word16) : RoundTrip.Statement (.jgt64K d imm off) := fun strict => by
  show decodeFields strict { opcode := 0x25#8, dst := d.num, src := 0#4, offset := off, imm := imm } none = _
  simp [decodeFields, cls_of 0x25#8 5 rfl, code_of 0x25#8 2 rfl, decodeJmp, sourceX_of 0x25#8 false rfl, condJump,
    formKX, formK_encoded]

theorem RoundTrip.jgt64X (d : Reg) (s : Reg) (off : Word16) : RoundTrip.Statement (.jgt64X d s off) := fun strict => by
  show decodeFields strict { opcode := 0x2d#8, dst := d.num, src := s.num, offset := off, imm := 0#32 } none = _
  simp [decodeFields, cls_of 0x2d#8 5 rfl, code_of 0x2d#8 2 rfl, decodeJmp, sourceX_of 0x2d#8 true rfl, condJump,
    formKX, formX_encoded]

theorem RoundTrip.jgt32K (d : Reg) (imm : Word32) (off : Word16) : RoundTrip.Statement (.jgt32K d imm off) := fun strict => by
  show decodeFields strict { opcode := 0x26#8, dst := d.num, src := 0#4, offset := off, imm := imm } none = _
  simp [decodeFields, cls_of 0x26#8 6 rfl, code_of 0x26#8 2 rfl, decodeJmp32, sourceX_of 0x26#8 false rfl, condJump,
    formKX, formK_encoded]

theorem RoundTrip.jgt32X (d : Reg) (s : Reg) (off : Word16) : RoundTrip.Statement (.jgt32X d s off) := fun strict => by
  show decodeFields strict { opcode := 0x2e#8, dst := d.num, src := s.num, offset := off, imm := 0#32 } none = _
  simp [decodeFields, cls_of 0x2e#8 6 rfl, code_of 0x2e#8 2 rfl, decodeJmp32, sourceX_of 0x2e#8 true rfl, condJump,
    formKX, formX_encoded]

theorem RoundTrip.jge64K (d : Reg) (imm : Word32) (off : Word16) : RoundTrip.Statement (.jge64K d imm off) := fun strict => by
  show decodeFields strict { opcode := 0x35#8, dst := d.num, src := 0#4, offset := off, imm := imm } none = _
  simp [decodeFields, cls_of 0x35#8 5 rfl, code_of 0x35#8 3 rfl, decodeJmp, sourceX_of 0x35#8 false rfl, condJump,
    formKX, formK_encoded]

theorem RoundTrip.jge64X (d : Reg) (s : Reg) (off : Word16) : RoundTrip.Statement (.jge64X d s off) := fun strict => by
  show decodeFields strict { opcode := 0x3d#8, dst := d.num, src := s.num, offset := off, imm := 0#32 } none = _
  simp [decodeFields, cls_of 0x3d#8 5 rfl, code_of 0x3d#8 3 rfl, decodeJmp, sourceX_of 0x3d#8 true rfl, condJump,
    formKX, formX_encoded]

theorem RoundTrip.jge32K (d : Reg) (imm : Word32) (off : Word16) : RoundTrip.Statement (.jge32K d imm off) := fun strict => by
  show decodeFields strict { opcode := 0x36#8, dst := d.num, src := 0#4, offset := off, imm := imm } none = _
  simp [decodeFields, cls_of 0x36#8 6 rfl, code_of 0x36#8 3 rfl, decodeJmp32, sourceX_of 0x36#8 false rfl, condJump,
    formKX, formK_encoded]

theorem RoundTrip.jge32X (d : Reg) (s : Reg) (off : Word16) : RoundTrip.Statement (.jge32X d s off) := fun strict => by
  show decodeFields strict { opcode := 0x3e#8, dst := d.num, src := s.num, offset := off, imm := 0#32 } none = _
  simp [decodeFields, cls_of 0x3e#8 6 rfl, code_of 0x3e#8 3 rfl, decodeJmp32, sourceX_of 0x3e#8 true rfl, condJump,
    formKX, formX_encoded]

theorem RoundTrip.jset64K (d : Reg) (imm : Word32) (off : Word16) : RoundTrip.Statement (.jset64K d imm off) := fun strict => by
  show decodeFields strict { opcode := 0x45#8, dst := d.num, src := 0#4, offset := off, imm := imm } none = _
  simp [decodeFields, cls_of 0x45#8 5 rfl, code_of 0x45#8 4 rfl, decodeJmp, sourceX_of 0x45#8 false rfl, condJump,
    formKX, formK_encoded]

theorem RoundTrip.jset64X (d : Reg) (s : Reg) (off : Word16) : RoundTrip.Statement (.jset64X d s off) := fun strict => by
  show decodeFields strict { opcode := 0x4d#8, dst := d.num, src := s.num, offset := off, imm := 0#32 } none = _
  simp [decodeFields, cls_of 0x4d#8 5 rfl, code_of 0x4d#8 4 rfl, decodeJmp, sourceX_of 0x4d#8 true rfl, condJump,
    formKX, formX_encoded]

theorem RoundTrip.jset32K (d : Reg) (imm : Word32) (off : Word16) : RoundTrip.Statement (.jset32K d imm off) := fun strict => by
  show decodeFields strict { opcode := 0x46#8, dst := d.num, src := 0#4, offset := off, imm := imm } none = _
  simp [decodeFields, cls_of 0x46#8 6 rfl, code_of 0x46#8 4 rfl, decodeJmp32, sourceX_of 0x46#8 false rfl, condJump,
    formKX, formK_encoded]

theorem RoundTrip.jset32X (d : Reg) (s : Reg) (off : Word16) : RoundTrip.Statement (.jset32X d s off) := fun strict => by
  show decodeFields strict { opcode := 0x4e#8, dst := d.num, src := s.num, offset := off, imm := 0#32 } none = _
  simp [decodeFields, cls_of 0x4e#8 6 rfl, code_of 0x4e#8 4 rfl, decodeJmp32, sourceX_of 0x4e#8 true rfl, condJump,
    formKX, formX_encoded]

theorem RoundTrip.jne64K (d : Reg) (imm : Word32) (off : Word16) : RoundTrip.Statement (.jne64K d imm off) := fun strict => by
  show decodeFields strict { opcode := 0x55#8, dst := d.num, src := 0#4, offset := off, imm := imm } none = _
  simp [decodeFields, cls_of 0x55#8 5 rfl, code_of 0x55#8 5 rfl, decodeJmp, sourceX_of 0x55#8 false rfl, condJump,
    formKX, formK_encoded]

theorem RoundTrip.jne64X (d : Reg) (s : Reg) (off : Word16) : RoundTrip.Statement (.jne64X d s off) := fun strict => by
  show decodeFields strict { opcode := 0x5d#8, dst := d.num, src := s.num, offset := off, imm := 0#32 } none = _
  simp [decodeFields, cls_of 0x5d#8 5 rfl, code_of 0x5d#8 5 rfl, decodeJmp, sourceX_of 0x5d#8 true rfl, condJump,
    formKX, formX_encoded]

theorem RoundTrip.jne32K (d : Reg) (imm : Word32) (off : Word16) : RoundTrip.Statement (.jne32K d imm off) := fun strict => by
  show decodeFields strict { opcode := 0x56#8, dst := d.num, src := 0#4, offset := off, imm := imm } none = _
  simp [decodeFields, cls_of 0x56#8 6 rfl, code_of 0x56#8 5 rfl, decodeJmp32, sourceX_of 0x56#8 false rfl, condJump,
    formKX, formK_encoded]

theorem RoundTrip.jne32X (d : Reg) (s : Reg) (off : Word16) : RoundTrip.Statement (.jne32X d s off) := fun strict => by
  show decodeFields strict { opcode := 0x5e#8, dst := d.num, src := s.num, offset := off, imm := 0#32 } none = _
  simp [decodeFields, cls_of 0x5e#8 6 rfl, code_of 0x5e#8 5 rfl, decodeJmp32, sourceX_of 0x5e#8 true rfl, condJump,
    formKX, formX_encoded]

theorem RoundTrip.jsgt64K (d : Reg) (imm : Word32) (off : Word16) : RoundTrip.Statement (.jsgt64K d imm off) := fun strict => by
  show decodeFields strict { opcode := 0x65#8, dst := d.num, src := 0#4, offset := off, imm := imm } none = _
  simp [decodeFields, cls_of 0x65#8 5 rfl, code_of 0x65#8 6 rfl, decodeJmp, sourceX_of 0x65#8 false rfl, condJump,
    formKX, formK_encoded]

theorem RoundTrip.jsgt64X (d : Reg) (s : Reg) (off : Word16) : RoundTrip.Statement (.jsgt64X d s off) := fun strict => by
  show decodeFields strict { opcode := 0x6d#8, dst := d.num, src := s.num, offset := off, imm := 0#32 } none = _
  simp [decodeFields, cls_of 0x6d#8 5 rfl, code_of 0x6d#8 6 rfl, decodeJmp, sourceX_of 0x6d#8 true rfl, condJump,
    formKX, formX_encoded]

theorem RoundTrip.jsgt32K (d : Reg) (imm : Word32) (off : Word16) : RoundTrip.Statement (.jsgt32K d imm off) := fun strict => by
  show decodeFields strict { opcode := 0x66#8, dst := d.num, src := 0#4, offset := off, imm := imm } none = _
  simp [decodeFields, cls_of 0x66#8 6 rfl, code_of 0x66#8 6 rfl, decodeJmp32, sourceX_of 0x66#8 false rfl, condJump,
    formKX, formK_encoded]

theorem RoundTrip.jsgt32X (d : Reg) (s : Reg) (off : Word16) : RoundTrip.Statement (.jsgt32X d s off) := fun strict => by
  show decodeFields strict { opcode := 0x6e#8, dst := d.num, src := s.num, offset := off, imm := 0#32 } none = _
  simp [decodeFields, cls_of 0x6e#8 6 rfl, code_of 0x6e#8 6 rfl, decodeJmp32, sourceX_of 0x6e#8 true rfl, condJump,
    formKX, formX_encoded]

theorem RoundTrip.jsge64K (d : Reg) (imm : Word32) (off : Word16) : RoundTrip.Statement (.jsge64K d imm off) := fun strict => by
  show decodeFields strict { opcode := 0x75#8, dst := d.num, src := 0#4, offset := off, imm := imm } none = _
  simp [decodeFields, cls_of 0x75#8 5 rfl, code_of 0x75#8 7 rfl, decodeJmp, sourceX_of 0x75#8 false rfl, condJump,
    formKX, formK_encoded]

theorem RoundTrip.jsge64X (d : Reg) (s : Reg) (off : Word16) : RoundTrip.Statement (.jsge64X d s off) := fun strict => by
  show decodeFields strict { opcode := 0x7d#8, dst := d.num, src := s.num, offset := off, imm := 0#32 } none = _
  simp [decodeFields, cls_of 0x7d#8 5 rfl, code_of 0x7d#8 7 rfl, decodeJmp, sourceX_of 0x7d#8 true rfl, condJump,
    formKX, formX_encoded]

theorem RoundTrip.jsge32K (d : Reg) (imm : Word32) (off : Word16) : RoundTrip.Statement (.jsge32K d imm off) := fun strict => by
  show decodeFields strict { opcode := 0x76#8, dst := d.num, src := 0#4, offset := off, imm := imm } none = _
  simp [decodeFields, cls_of 0x76#8 6 rfl, code_of 0x76#8 7 rfl, decodeJmp32, sourceX_of 0x76#8 false rfl, condJump,
    formKX, formK_encoded]

theorem RoundTrip.jsge32X (d : Reg) (s : Reg) (off : Word16) : RoundTrip.Statement (.jsge32X d s off) := fun strict => by
  show decodeFields strict { opcode := 0x7e#8, dst := d.num, src := s.num, offset := off, imm := 0#32 } none = _
  simp [decodeFields, cls_of 0x7e#8 6 rfl, code_of 0x7e#8 7 rfl, decodeJmp32, sourceX_of 0x7e#8 true rfl, condJump,
    formKX, formX_encoded]

theorem RoundTrip.jlt64K (d : Reg) (imm : Word32) (off : Word16) : RoundTrip.Statement (.jlt64K d imm off) := fun strict => by
  show decodeFields strict { opcode := 0xa5#8, dst := d.num, src := 0#4, offset := off, imm := imm } none = _
  simp [decodeFields, cls_of 0xa5#8 5 rfl, code_of 0xa5#8 10 rfl, decodeJmp, sourceX_of 0xa5#8 false rfl, condJump,
    formKX, formK_encoded]

theorem RoundTrip.jlt64X (d : Reg) (s : Reg) (off : Word16) : RoundTrip.Statement (.jlt64X d s off) := fun strict => by
  show decodeFields strict { opcode := 0xad#8, dst := d.num, src := s.num, offset := off, imm := 0#32 } none = _
  simp [decodeFields, cls_of 0xad#8 5 rfl, code_of 0xad#8 10 rfl, decodeJmp, sourceX_of 0xad#8 true rfl, condJump,
    formKX, formX_encoded]

theorem RoundTrip.jlt32K (d : Reg) (imm : Word32) (off : Word16) : RoundTrip.Statement (.jlt32K d imm off) := fun strict => by
  show decodeFields strict { opcode := 0xa6#8, dst := d.num, src := 0#4, offset := off, imm := imm } none = _
  simp [decodeFields, cls_of 0xa6#8 6 rfl, code_of 0xa6#8 10 rfl, decodeJmp32, sourceX_of 0xa6#8 false rfl,
    condJump, formKX, formK_encoded]

theorem RoundTrip.jlt32X (d : Reg) (s : Reg) (off : Word16) : RoundTrip.Statement (.jlt32X d s off) := fun strict => by
  show decodeFields strict { opcode := 0xae#8, dst := d.num, src := s.num, offset := off, imm := 0#32 } none = _
  simp [decodeFields, cls_of 0xae#8 6 rfl, code_of 0xae#8 10 rfl, decodeJmp32, sourceX_of 0xae#8 true rfl, condJump,
    formKX, formX_encoded]

theorem RoundTrip.jle64K (d : Reg) (imm : Word32) (off : Word16) : RoundTrip.Statement (.jle64K d imm off) := fun strict => by
  show decodeFields strict { opcode := 0xb5#8, dst := d.num, src := 0#4, offset := off, imm := imm } none = _
  simp [decodeFields, cls_of 0xb5#8 5 rfl, code_of 0xb5#8 11 rfl, decodeJmp, sourceX_of 0xb5#8 false rfl, condJump,
    formKX, formK_encoded]

theorem RoundTrip.jle64X (d : Reg) (s : Reg) (off : Word16) : RoundTrip.Statement (.jle64X d s off) := fun strict => by
  show decodeFields strict { opcode := 0xbd#8, dst := d.num, src := s.num, offset := off, imm := 0#32 } none = _
  simp [decodeFields, cls_of 0xbd#8 5 rfl, code_of 0xbd#8 11 rfl, decodeJmp, sourceX_of 0xbd#8 true rfl, condJump,
    formKX, formX_encoded]

theorem RoundTrip.jle32K (d : Reg) (imm : Word32) (off : Word16) : RoundTrip.Statement (.jle32K d imm off) := fun strict => by
  show decodeFields strict { opcode := 0xb6#8, dst := d.num, src := 0#4, offset := off, imm := imm } none = _
  simp [decodeFields, cls_of 0xb6#8 6 rfl, code_of 0xb6#8 11 rfl, decodeJmp32, sourceX_of 0xb6#8 false rfl,
    condJump, formKX, formK_encoded]

theorem RoundTrip.jle32X (d : Reg) (s : Reg) (off : Word16) : RoundTrip.Statement (.jle32X d s off) := fun strict => by
  show decodeFields strict { opcode := 0xbe#8, dst := d.num, src := s.num, offset := off, imm := 0#32 } none = _
  simp [decodeFields, cls_of 0xbe#8 6 rfl, code_of 0xbe#8 11 rfl, decodeJmp32, sourceX_of 0xbe#8 true rfl, condJump,
    formKX, formX_encoded]

theorem RoundTrip.jslt64K (d : Reg) (imm : Word32) (off : Word16) : RoundTrip.Statement (.jslt64K d imm off) := fun strict => by
  show decodeFields strict { opcode := 0xc5#8, dst := d.num, src := 0#4, offset := off, imm := imm } none = _
  simp [decodeFields, cls_of 0xc5#8 5 rfl, code_of 0xc5#8 12 rfl, decodeJmp, sourceX_of 0xc5#8 false rfl, condJump,
    formKX, formK_encoded]

theorem RoundTrip.jslt64X (d : Reg) (s : Reg) (off : Word16) : RoundTrip.Statement (.jslt64X d s off) := fun strict => by
  show decodeFields strict { opcode := 0xcd#8, dst := d.num, src := s.num, offset := off, imm := 0#32 } none = _
  simp [decodeFields, cls_of 0xcd#8 5 rfl, code_of 0xcd#8 12 rfl, decodeJmp, sourceX_of 0xcd#8 true rfl, condJump,
    formKX, formX_encoded]

theorem RoundTrip.jslt32K (d : Reg) (imm : Word32) (off : Word16) : RoundTrip.Statement (.jslt32K d imm off) := fun strict => by
  show decodeFields strict { opcode := 0xc6#8, dst := d.num, src := 0#4, offset := off, imm := imm } none = _
  simp [decodeFields, cls_of 0xc6#8 6 rfl, code_of 0xc6#8 12 rfl, decodeJmp32, sourceX_of 0xc6#8 false rfl,
    condJump, formKX, formK_encoded]

theorem RoundTrip.jslt32X (d : Reg) (s : Reg) (off : Word16) : RoundTrip.Statement (.jslt32X d s off) := fun strict => by
  show decodeFields strict { opcode := 0xce#8, dst := d.num, src := s.num, offset := off, imm := 0#32 } none = _
  simp [decodeFields, cls_of 0xce#8 6 rfl, code_of 0xce#8 12 rfl, decodeJmp32, sourceX_of 0xce#8 true rfl, condJump,
    formKX, formX_encoded]

theorem RoundTrip.jsle64K (d : Reg) (imm : Word32) (off : Word16) : RoundTrip.Statement (.jsle64K d imm off) := fun strict => by
  show decodeFields strict { opcode := 0xd5#8, dst := d.num, src := 0#4, offset := off, imm := imm } none = _
  simp [decodeFields, cls_of 0xd5#8 5 rfl, code_of 0xd5#8 13 rfl, decodeJmp, sourceX_of 0xd5#8 false rfl, condJump,
    formKX, formK_encoded]

theorem RoundTrip.jsle64X (d : Reg) (s : Reg) (off : Word16) : RoundTrip.Statement (.jsle64X d s off) := fun strict => by
  show decodeFields strict { opcode := 0xdd#8, dst := d.num, src := s.num, offset := off, imm := 0#32 } none = _
  simp [decodeFields, cls_of 0xdd#8 5 rfl, code_of 0xdd#8 13 rfl, decodeJmp, sourceX_of 0xdd#8 true rfl, condJump,
    formKX, formX_encoded]

theorem RoundTrip.jsle32K (d : Reg) (imm : Word32) (off : Word16) : RoundTrip.Statement (.jsle32K d imm off) := fun strict => by
  show decodeFields strict { opcode := 0xd6#8, dst := d.num, src := 0#4, offset := off, imm := imm } none = _
  simp [decodeFields, cls_of 0xd6#8 6 rfl, code_of 0xd6#8 13 rfl, decodeJmp32, sourceX_of 0xd6#8 false rfl,
    condJump, formKX, formK_encoded]

theorem RoundTrip.jsle32X (d : Reg) (s : Reg) (off : Word16) : RoundTrip.Statement (.jsle32X d s off) := fun strict => by
  show decodeFields strict { opcode := 0xde#8, dst := d.num, src := s.num, offset := off, imm := 0#32 } none = _
  simp [decodeFields, cls_of 0xde#8 6 rfl, code_of 0xde#8 13 rfl, decodeJmp32, sourceX_of 0xde#8 true rfl, condJump,
    formKX, formX_encoded]

theorem RoundTrip.callHelper (imm : Word32) : RoundTrip.Statement (.callHelper imm) := fun strict => by
  show decodeFields strict { opcode := 0x85#8, dst := 0#4, src := 0#4, offset := 0#16, imm := imm } none = _
  simp [decodeFields, cls_of 0x85#8 5 rfl, code_of 0x85#8 8 rfl, decodeJmp, sourceX_of 0x85#8 false rfl, decodeCall,
    needUnused]

theorem RoundTrip.callLocal (imm : Word32) : RoundTrip.Statement (.callLocal imm) := fun strict => by
  show decodeFields strict { opcode := 0x85#8, dst := 0#4, src := 1#4, offset := 0#16, imm := imm } none = _
  simp [decodeFields, cls_of 0x85#8 5 rfl, code_of 0x85#8 8 rfl, decodeJmp, sourceX_of 0x85#8 false rfl, decodeCall,
    needUnused]

theorem RoundTrip.callBtf (imm : Word32) : RoundTrip.Statement (.callBtf imm) := fun strict => by
  show decodeFields strict { opcode := 0x85#8, dst := 0#4, src := 2#4, offset := 0#16, imm := imm } none = _
  simp [decodeFields, cls_of 0x85#8 5 rfl, code_of 0x85#8 8 rfl, decodeJmp, sourceX_of 0x85#8 false rfl, decodeCall,
    needUnused]

theorem RoundTrip.exit : RoundTrip.Statement (.exit) := fun strict => by
  show decodeFields strict { opcode := 0x95#8, dst := 0#4, src := 0#4, offset := 0#16, imm := 0#32 } none = _
  simp [decodeFields, cls_of 0x95#8 5 rfl, code_of 0x95#8 9 rfl, decodeJmp, sourceX_of 0x95#8 false rfl, needUnused]

theorem RoundTrip.ldxB (d : Reg) (s : Reg) (off : Word16) : RoundTrip.Statement (.ldxB d s off) := fun strict => by
  show decodeFields strict { opcode := 0x71#8, dst := d.num, src := s.num, offset := off, imm := 0#32 } none = _
  simp [decodeFields, cls_of 0x71#8 1 rfl, mode_of 0x71#8 3 rfl, size_of 0x71#8 2 rfl, decodeLdx, loadStore,
    formX_encoded]

theorem RoundTrip.ldxH (d : Reg) (s : Reg) (off : Word16) : RoundTrip.Statement (.ldxH d s off) := fun strict => by
  show decodeFields strict { opcode := 0x69#8, dst := d.num, src := s.num, offset := off, imm := 0#32 } none = _
  simp [decodeFields, cls_of 0x69#8 1 rfl, mode_of 0x69#8 3 rfl, size_of 0x69#8 1 rfl, decodeLdx, loadStore,
    formX_encoded]

theorem RoundTrip.ldxW (d : Reg) (s : Reg) (off : Word16) : RoundTrip.Statement (.ldxW d s off) := fun strict => by
  show decodeFields strict { opcode := 0x61#8, dst := d.num, src := s.num, offset := off, imm := 0#32 } none = _
  simp [decodeFields, cls_of 0x61#8 1 rfl, mode_of 0x61#8 3 rfl, size_of 0x61#8 0 rfl, decodeLdx, loadStore,
    formX_encoded]

theorem RoundTrip.ldxDw (d : Reg) (s : Reg) (off : Word16) : RoundTrip.Statement (.ldxDw d s off) := fun strict => by
  show decodeFields strict { opcode := 0x79#8, dst := d.num, src := s.num, offset := off, imm := 0#32 } none = _
  simp [decodeFields, cls_of 0x79#8 1 rfl, mode_of 0x79#8 3 rfl, size_of 0x79#8 3 rfl, decodeLdx, loadStore,
    formX_encoded]

theorem RoundTrip.stB (d : Reg) (imm : Word32) (off : Word16) : RoundTrip.Statement (.stB d imm off) := fun strict => by
  show decodeFields strict { opcode := 0x72#8, dst := d.num, src := 0#4, offset := off, imm := imm } none = _
  simp [decodeFields, cls_of 0x72#8 2 rfl, mode_of 0x72#8 3 rfl, size_of 0x72#8 2 rfl, decodeSt, storeImm,
    formK_encoded]

theorem RoundTrip.stH (d : Reg) (imm : Word32) (off : Word16) : RoundTrip.Statement (.stH d imm off) := fun strict => by
  show decodeFields strict { opcode := 0x6a#8, dst := d.num, src := 0#4, offset := off, imm := imm } none = _
  simp [decodeFields, cls_of 0x6a#8 2 rfl, mode_of 0x6a#8 3 rfl, size_of 0x6a#8 1 rfl, decodeSt, storeImm,
    formK_encoded]

theorem RoundTrip.stW (d : Reg) (imm : Word32) (off : Word16) : RoundTrip.Statement (.stW d imm off) := fun strict => by
  show decodeFields strict { opcode := 0x62#8, dst := d.num, src := 0#4, offset := off, imm := imm } none = _
  simp [decodeFields, cls_of 0x62#8 2 rfl, mode_of 0x62#8 3 rfl, size_of 0x62#8 0 rfl, decodeSt, storeImm,
    formK_encoded]

theorem RoundTrip.stDw (d : Reg) (imm : Word32) (off : Word16) : RoundTrip.Statement (.stDw d imm off) := fun strict => by
  show decodeFields strict { opcode := 0x7a#8, dst := d.num, src := 0#4, offset := off, imm := imm } none = _
  simp [decodeFields, cls_of 0x7a#8 2 rfl, mode_of 0x7a#8 3 rfl, size_of 0x7a#8 3 rfl, decodeSt, storeImm,
    formK_encoded]

theorem RoundTrip.stxB (d : Reg) (s : Reg) (off : Word16) : RoundTrip.Statement (.stxB d s off) := fun strict => by
  show decodeFields strict { opcode := 0x73#8, dst := d.num, src := s.num, offset := off, imm := 0#32 } none = _
  simp [decodeFields, cls_of 0x73#8 3 rfl, mode_of 0x73#8 3 rfl, size_of 0x73#8 2 rfl, decodeStx, loadStore,
    formX_encoded]

theorem RoundTrip.stxH (d : Reg) (s : Reg) (off : Word16) : RoundTrip.Statement (.stxH d s off) := fun strict => by
  show decodeFields strict { opcode := 0x6b#8, dst := d.num, src := s.num, offset := off, imm := 0#32 } none = _
  simp [decodeFields, cls_of 0x6b#8 3 rfl, mode_of 0x6b#8 3 rfl, size_of 0x6b#8 1 rfl, decodeStx, loadStore,
    formX_encoded]

theorem RoundTrip.stxW (d : Reg) (s : Reg) (off : Word16) : RoundTrip.Statement (.stxW d s off) := fun strict => by
  show decodeFields strict { opcode := 0x63#8, dst := d.num, src := s.num, offset := off, imm := 0#32 } none = _
  simp [decodeFields, cls_of 0x63#8 3 rfl, mode_of 0x63#8 3 rfl, size_of 0x63#8 0 rfl, decodeStx, loadStore,
    formX_encoded]

theorem RoundTrip.stxDw (d : Reg) (s : Reg) (off : Word16) : RoundTrip.Statement (.stxDw d s off) := fun strict => by
  show decodeFields strict { opcode := 0x7b#8, dst := d.num, src := s.num, offset := off, imm := 0#32 } none = _
  simp [decodeFields, cls_of 0x7b#8 3 rfl, mode_of 0x7b#8 3 rfl, size_of 0x7b#8 3 rfl, decodeStx, loadStore,
    formX_encoded]

theorem RoundTrip.ldxsB (d : Reg) (s : Reg) (off : Word16) : RoundTrip.Statement (.ldxsB d s off) := fun strict => by
  show decodeFields strict { opcode := 0x91#8, dst := d.num, src := s.num, offset := off, imm := 0#32 } none = _
  simp [decodeFields, cls_of 0x91#8 1 rfl, mode_of 0x91#8 4 rfl, size_of 0x91#8 2 rfl, decodeLdx, loadStore,
    formX_encoded]

theorem RoundTrip.ldxsH (d : Reg) (s : Reg) (off : Word16) : RoundTrip.Statement (.ldxsH d s off) := fun strict => by
  show decodeFields strict { opcode := 0x89#8, dst := d.num, src := s.num, offset := off, imm := 0#32 } none = _
  simp [decodeFields, cls_of 0x89#8 1 rfl, mode_of 0x89#8 4 rfl, size_of 0x89#8 1 rfl, decodeLdx, loadStore,
    formX_encoded]

theorem RoundTrip.ldxsW (d : Reg) (s : Reg) (off : Word16) : RoundTrip.Statement (.ldxsW d s off) := fun strict => by
  show decodeFields strict { opcode := 0x81#8, dst := d.num, src := s.num, offset := off, imm := 0#32 } none = _
  simp [decodeFields, cls_of 0x81#8 1 rfl, mode_of 0x81#8 4 rfl, size_of 0x81#8 0 rfl, decodeLdx, loadStore,
    formX_encoded]

theorem RoundTrip.atomic32Add (d : Reg) (s : Reg) (off : Word16) : RoundTrip.Statement (.atomic32Add d s off) := fun strict => by
  show decodeFields strict { opcode := 0xc3#8, dst := d.num, src := s.num, offset := off, imm := 0x0#32 } none = _
  simp [decodeFields, cls_of 0xc3#8 3 rfl, mode_of 0xc3#8 6 rfl, size_of 0xc3#8 0 rfl, decodeStx, atomic,
    withDst_encoded, withSrc_encoded]

theorem RoundTrip.atomic32FetchAdd (d : Reg) (s : Reg) (off : Word16) : RoundTrip.Statement (.atomic32FetchAdd d s off) := fun strict => by
  show decodeFields strict { opcode := 0xc3#8, dst := d.num, src := s.num, offset := off, imm := 0x1#32 } none = _
  simp [decodeFields, cls_of 0xc3#8 3 rfl, mode_of 0xc3#8 6 rfl, size_of 0xc3#8 0 rfl, decodeStx, atomic,
    withDst_encoded, withSrc_encoded]

theorem RoundTrip.atomic32Or (d : Reg) (s : Reg) (off : Word16) : RoundTrip.Statement (.atomic32Or d s off) := fun strict => by
  show decodeFields strict { opcode := 0xc3#8, dst := d.num, src := s.num, offset := off, imm := 0x40#32 } none = _
  simp [decodeFields, cls_of 0xc3#8 3 rfl, mode_of 0xc3#8 6 rfl, size_of 0xc3#8 0 rfl, decodeStx, atomic,
    withDst_encoded, withSrc_encoded]

theorem RoundTrip.atomic32FetchOr (d : Reg) (s : Reg) (off : Word16) : RoundTrip.Statement (.atomic32FetchOr d s off) := fun strict => by
  show decodeFields strict { opcode := 0xc3#8, dst := d.num, src := s.num, offset := off, imm := 0x41#32 } none = _
  simp [decodeFields, cls_of 0xc3#8 3 rfl, mode_of 0xc3#8 6 rfl, size_of 0xc3#8 0 rfl, decodeStx, atomic,
    withDst_encoded, withSrc_encoded]

theorem RoundTrip.atomic32And (d : Reg) (s : Reg) (off : Word16) : RoundTrip.Statement (.atomic32And d s off) := fun strict => by
  show decodeFields strict { opcode := 0xc3#8, dst := d.num, src := s.num, offset := off, imm := 0x50#32 } none = _
  simp [decodeFields, cls_of 0xc3#8 3 rfl, mode_of 0xc3#8 6 rfl, size_of 0xc3#8 0 rfl, decodeStx, atomic,
    withDst_encoded, withSrc_encoded]

theorem RoundTrip.atomic32FetchAnd (d : Reg) (s : Reg) (off : Word16) : RoundTrip.Statement (.atomic32FetchAnd d s off) := fun strict => by
  show decodeFields strict { opcode := 0xc3#8, dst := d.num, src := s.num, offset := off, imm := 0x51#32 } none = _
  simp [decodeFields, cls_of 0xc3#8 3 rfl, mode_of 0xc3#8 6 rfl, size_of 0xc3#8 0 rfl, decodeStx, atomic,
    withDst_encoded, withSrc_encoded]

theorem RoundTrip.atomic32Xor (d : Reg) (s : Reg) (off : Word16) : RoundTrip.Statement (.atomic32Xor d s off) := fun strict => by
  show decodeFields strict { opcode := 0xc3#8, dst := d.num, src := s.num, offset := off, imm := 0xa0#32 } none = _
  simp [decodeFields, cls_of 0xc3#8 3 rfl, mode_of 0xc3#8 6 rfl, size_of 0xc3#8 0 rfl, decodeStx, atomic,
    withDst_encoded, withSrc_encoded]

theorem RoundTrip.atomic32FetchXor (d : Reg) (s : Reg) (off : Word16) : RoundTrip.Statement (.atomic32FetchXor d s off) := fun strict => by
  show decodeFields strict { opcode := 0xc3#8, dst := d.num, src := s.num, offset := off, imm := 0xa1#32 } none = _
  simp [decodeFields, cls_of 0xc3#8 3 rfl, mode_of 0xc3#8 6 rfl, size_of 0xc3#8 0 rfl, decodeStx, atomic,
    withDst_encoded, withSrc_encoded]

theorem RoundTrip.atomic32Xchg (d : Reg) (s : Reg) (off : Word16) : RoundTrip.Statement (.atomic32Xchg d s off) := fun strict => by
  show decodeFields strict { opcode := 0xc3#8, dst := d.num, src := s.num, offset := off, imm := 0xe1#32 } none = _
  simp [decodeFields, cls_of 0xc3#8 3 rfl, mode_of 0xc3#8 6 rfl, size_of 0xc3#8 0 rfl, decodeStx, atomic,
    withDst_encoded, withSrc_encoded]

theorem RoundTrip.atomic32Cmpxchg (d : Reg) (s : Reg) (off : Word16) : RoundTrip.Statement (.atomic32Cmpxchg d s off) := fun strict => by
  show decodeFields strict { opcode := 0xc3#8, dst := d.num, src := s.num, offset := off, imm := 0xf1#32 } none = _
  simp [decodeFields, cls_of 0xc3#8 3 rfl, mode_of 0xc3#8 6 rfl, size_of 0xc3#8 0 rfl, decodeStx, atomic,
    withDst_encoded, withSrc_encoded]

theorem RoundTrip.atomic64Add (d : Reg) (s : Reg) (off : Word16) : RoundTrip.Statement (.atomic64Add d s off) := fun strict => by
  show decodeFields strict { opcode := 0xdb#8, dst := d.num, src := s.num, offset := off, imm := 0x0#32 } none = _
  simp [decodeFields, cls_of 0xdb#8 3 rfl, mode_of 0xdb#8 6 rfl, size_of 0xdb#8 3 rfl, decodeStx, atomic,
    withDst_encoded, withSrc_encoded]

theorem RoundTrip.atomic64FetchAdd (d : Reg) (s : Reg) (off : Word16) : RoundTrip.Statement (.atomic64FetchAdd d s off) := fun strict => by
  show decodeFields strict { opcode := 0xdb#8, dst := d.num, src := s.num, offset := off, imm := 0x1#32 } none = _
  simp [decodeFields, cls_of 0xdb#8 3 rfl, mode_of 0xdb#8 6 rfl, size_of 0xdb#8 3 rfl, decodeStx, atomic,
    withDst_encoded, withSrc_encoded]

theorem RoundTrip.atomic64Or (d : Reg) (s : Reg) (off : Word16) : RoundTrip.Statement (.atomic64Or d s off) := fun strict => by
  show decodeFields strict { opcode := 0xdb#8, dst := d.num, src := s.num, offset := off, imm := 0x40#32 } none = _
  simp [decodeFields, cls_of 0xdb#8 3 rfl, mode_of 0xdb#8 6 rfl, size_of 0xdb#8 3 rfl, decodeStx, atomic,
    withDst_encoded, withSrc_encoded]

theorem RoundTrip.atomic64FetchOr (d : Reg) (s : Reg) (off : Word16) : RoundTrip.Statement (.atomic64FetchOr d s off) := fun strict => by
  show decodeFields strict { opcode := 0xdb#8, dst := d.num, src := s.num, offset := off, imm := 0x41#32 } none = _
  simp [decodeFields, cls_of 0xdb#8 3 rfl, mode_of 0xdb#8 6 rfl, size_of 0xdb#8 3 rfl, decodeStx, atomic,
    withDst_encoded, withSrc_encoded]

theorem RoundTrip.atomic64And (d : Reg) (s : Reg) (off : Word16) : RoundTrip.Statement (.atomic64And d s off) := fun strict => by
  show decodeFields strict { opcode := 0xdb#8, dst := d.num, src := s.num, offset := off, imm := 0x50#32 } none = _
  simp [decodeFields, cls_of 0xdb#8 3 rfl, mode_of 0xdb#8 6 rfl, size_of 0xdb#8 3 rfl, decodeStx, atomic,
    withDst_encoded, withSrc_encoded]

theorem RoundTrip.atomic64FetchAnd (d : Reg) (s : Reg) (off : Word16) : RoundTrip.Statement (.atomic64FetchAnd d s off) := fun strict => by
  show decodeFields strict { opcode := 0xdb#8, dst := d.num, src := s.num, offset := off, imm := 0x51#32 } none = _
  simp [decodeFields, cls_of 0xdb#8 3 rfl, mode_of 0xdb#8 6 rfl, size_of 0xdb#8 3 rfl, decodeStx, atomic,
    withDst_encoded, withSrc_encoded]

theorem RoundTrip.atomic64Xor (d : Reg) (s : Reg) (off : Word16) : RoundTrip.Statement (.atomic64Xor d s off) := fun strict => by
  show decodeFields strict { opcode := 0xdb#8, dst := d.num, src := s.num, offset := off, imm := 0xa0#32 } none = _
  simp [decodeFields, cls_of 0xdb#8 3 rfl, mode_of 0xdb#8 6 rfl, size_of 0xdb#8 3 rfl, decodeStx, atomic,
    withDst_encoded, withSrc_encoded]

theorem RoundTrip.atomic64FetchXor (d : Reg) (s : Reg) (off : Word16) : RoundTrip.Statement (.atomic64FetchXor d s off) := fun strict => by
  show decodeFields strict { opcode := 0xdb#8, dst := d.num, src := s.num, offset := off, imm := 0xa1#32 } none = _
  simp [decodeFields, cls_of 0xdb#8 3 rfl, mode_of 0xdb#8 6 rfl, size_of 0xdb#8 3 rfl, decodeStx, atomic,
    withDst_encoded, withSrc_encoded]

theorem RoundTrip.atomic64Xchg (d : Reg) (s : Reg) (off : Word16) : RoundTrip.Statement (.atomic64Xchg d s off) := fun strict => by
  show decodeFields strict { opcode := 0xdb#8, dst := d.num, src := s.num, offset := off, imm := 0xe1#32 } none = _
  simp [decodeFields, cls_of 0xdb#8 3 rfl, mode_of 0xdb#8 6 rfl, size_of 0xdb#8 3 rfl, decodeStx, atomic,
    withDst_encoded, withSrc_encoded]

theorem RoundTrip.atomic64Cmpxchg (d : Reg) (s : Reg) (off : Word16) : RoundTrip.Statement (.atomic64Cmpxchg d s off) := fun strict => by
  show decodeFields strict { opcode := 0xdb#8, dst := d.num, src := s.num, offset := off, imm := 0xf1#32 } none = _
  simp [decodeFields, cls_of 0xdb#8 3 rfl, mode_of 0xdb#8 6 rfl, size_of 0xdb#8 3 rfl, decodeStx, atomic,
    withDst_encoded, withSrc_encoded]

theorem RoundTrip.ldImm64 (d : Reg) (imm : Word32) (next : Word32) : RoundTrip.Statement (.ldImm64 d imm next) := fun strict => by
  show decodeFields strict { opcode := 0x18#8, dst := d.num, src := 0#4, offset := 0#16, imm := imm }
      (some { opcode := 0#8, dst := 0#4, src := 0#4, offset := 0#16, imm := next }) = _
  simp [decodeFields, cls_of 0x18#8 0 rfl, mode_of 0x18#8 0 rfl, size_of 0x18#8 3 rfl, decodeLd, decodeWide,
    Fields.reservedZero, needUnused, withDst_encoded]

theorem RoundTrip.ldMapFd (d : Reg) (imm : Word32) : RoundTrip.Statement (.ldMapFd d imm) := fun strict => by
  show decodeFields strict { opcode := 0x18#8, dst := d.num, src := 1#4, offset := 0#16, imm := imm }
      (some { opcode := 0#8, dst := 0#4, src := 0#4, offset := 0#16, imm := 0#32 }) = _
  simp [decodeFields, cls_of 0x18#8 0 rfl, mode_of 0x18#8 0 rfl, size_of 0x18#8 3 rfl, decodeLd, decodeWide,
    Fields.reservedZero, needUnused, withDst_encoded]

theorem RoundTrip.ldMapValFd (d : Reg) (imm : Word32) (next : Word32) : RoundTrip.Statement (.ldMapValFd d imm next) := fun strict => by
  show decodeFields strict { opcode := 0x18#8, dst := d.num, src := 2#4, offset := 0#16, imm := imm }
      (some { opcode := 0#8, dst := 0#4, src := 0#4, offset := 0#16, imm := next }) = _
  simp [decodeFields, cls_of 0x18#8 0 rfl, mode_of 0x18#8 0 rfl, size_of 0x18#8 3 rfl, decodeLd, decodeWide,
    Fields.reservedZero, needUnused, withDst_encoded]

theorem RoundTrip.ldVarAddr (d : Reg) (imm : Word32) : RoundTrip.Statement (.ldVarAddr d imm) := fun strict => by
  show decodeFields strict { opcode := 0x18#8, dst := d.num, src := 3#4, offset := 0#16, imm := imm }
      (some { opcode := 0#8, dst := 0#4, src := 0#4, offset := 0#16, imm := 0#32 }) = _
  simp [decodeFields, cls_of 0x18#8 0 rfl, mode_of 0x18#8 0 rfl, size_of 0x18#8 3 rfl, decodeLd, decodeWide,
    Fields.reservedZero, needUnused, withDst_encoded]

theorem RoundTrip.ldCodeAddr (d : Reg) (imm : Word32) : RoundTrip.Statement (.ldCodeAddr d imm) := fun strict => by
  show decodeFields strict { opcode := 0x18#8, dst := d.num, src := 4#4, offset := 0#16, imm := imm }
      (some { opcode := 0#8, dst := 0#4, src := 0#4, offset := 0#16, imm := 0#32 }) = _
  simp [decodeFields, cls_of 0x18#8 0 rfl, mode_of 0x18#8 0 rfl, size_of 0x18#8 3 rfl, decodeLd, decodeWide,
    Fields.reservedZero, needUnused, withDst_encoded]

theorem RoundTrip.ldMapIdx (d : Reg) (imm : Word32) : RoundTrip.Statement (.ldMapIdx d imm) := fun strict => by
  show decodeFields strict { opcode := 0x18#8, dst := d.num, src := 5#4, offset := 0#16, imm := imm }
      (some { opcode := 0#8, dst := 0#4, src := 0#4, offset := 0#16, imm := 0#32 }) = _
  simp [decodeFields, cls_of 0x18#8 0 rfl, mode_of 0x18#8 0 rfl, size_of 0x18#8 3 rfl, decodeLd, decodeWide,
    Fields.reservedZero, needUnused, withDst_encoded]

theorem RoundTrip.ldMapValIdx (d : Reg) (imm : Word32) (next : Word32) : RoundTrip.Statement (.ldMapValIdx d imm next) := fun strict => by
  show decodeFields strict { opcode := 0x18#8, dst := d.num, src := 6#4, offset := 0#16, imm := imm }
      (some { opcode := 0#8, dst := 0#4, src := 0#4, offset := 0#16, imm := next }) = _
  simp [decodeFields, cls_of 0x18#8 0 rfl, mode_of 0x18#8 0 rfl, size_of 0x18#8 3 rfl, decodeLd, decodeWide,
    Fields.reservedZero, needUnused, withDst_encoded]

theorem RoundTrip.ldAbsW (imm : Word32) : RoundTrip.Statement (.ldAbsW imm) := fun strict => by
  show decodeFields strict { opcode := 0x20#8, dst := 0#4, src := 0#4, offset := 0#16, imm := imm } none = _
  simp [decodeFields, cls_of 0x20#8 0 rfl, mode_of 0x20#8 1 rfl, size_of 0x20#8 0 rfl, decodeLd, packetAbs,
    needUnused]

theorem RoundTrip.ldAbsH (imm : Word32) : RoundTrip.Statement (.ldAbsH imm) := fun strict => by
  show decodeFields strict { opcode := 0x28#8, dst := 0#4, src := 0#4, offset := 0#16, imm := imm } none = _
  simp [decodeFields, cls_of 0x28#8 0 rfl, mode_of 0x28#8 1 rfl, size_of 0x28#8 1 rfl, decodeLd, packetAbs,
    needUnused]

theorem RoundTrip.ldAbsB (imm : Word32) : RoundTrip.Statement (.ldAbsB imm) := fun strict => by
  show decodeFields strict { opcode := 0x30#8, dst := 0#4, src := 0#4, offset := 0#16, imm := imm } none = _
  simp [decodeFields, cls_of 0x30#8 0 rfl, mode_of 0x30#8 1 rfl, size_of 0x30#8 2 rfl, decodeLd, packetAbs,
    needUnused]

theorem RoundTrip.ldIndW (s : Reg) (imm : Word32) : RoundTrip.Statement (.ldIndW s imm) := fun strict => by
  show decodeFields strict { opcode := 0x40#8, dst := 0#4, src := s.num, offset := 0#16, imm := imm } none = _
  simp [decodeFields, cls_of 0x40#8 0 rfl, mode_of 0x40#8 2 rfl, size_of 0x40#8 0 rfl, decodeLd, packetInd,
    needUnused, withSrc_encoded]

theorem RoundTrip.ldIndH (s : Reg) (imm : Word32) : RoundTrip.Statement (.ldIndH s imm) := fun strict => by
  show decodeFields strict { opcode := 0x48#8, dst := 0#4, src := s.num, offset := 0#16, imm := imm } none = _
  simp [decodeFields, cls_of 0x48#8 0 rfl, mode_of 0x48#8 2 rfl, size_of 0x48#8 1 rfl, decodeLd, packetInd,
    needUnused, withSrc_encoded]

theorem RoundTrip.ldIndB (s : Reg) (imm : Word32) : RoundTrip.Statement (.ldIndB s imm) := fun strict => by
  show decodeFields strict { opcode := 0x50#8, dst := 0#4, src := s.num, offset := 0#16, imm := imm } none = _
  simp [decodeFields, cls_of 0x50#8 0 rfl, mode_of 0x50#8 2 rfl, size_of 0x50#8 2 rfl, decodeLd, packetInd,
    needUnused, withSrc_encoded]

end Sys2Proof.Laws
end

