-- ==== Sys2Proof/Laws/Traps.lean ====
section
/-! SUPPORT. Where the shared operations take a fault: one lemma per operation and reason. Provers of statements about
faults cite these and unfold no operation. -/

namespace Sys2Proof.Machine

/-! ### An unwritten operand (10_state.md R24) -/

theorem writeResult_unwritten {s : State} {d : Reg} {rs : List Reg} {v : Word} {f : RunFault} (hd : d ≠ .r10)
    (h : readFault s rs = some f) : writeResult s d rs v = .next (raise s f) := by
  simp [writeResult, settle, guardWrite_of_ne hd, guardRead, h]

theorem jumpIf_unwritten {s : State} {rs : List Reg} {c : Bool} {off : Word16} {f : RunFault}
    (h : readFault s rs = some f) : jumpIf s rs c off = .next (raise s f) := by
  simp [jumpIf, settle, guardRead, h]

theorem load_unwritten {s : State} {n : Nat} {ext : Word → Word} {d r : Reg} {off : Word16} {f : RunFault}
    (hd : d ≠ .r10) (h : readFault s [r] = some f) : load n ext d r off s = .next (raise s f) := by
  simp [load, settle, guardWrite_of_ne hd, guardRead, h]

theorem store_unwritten {s : State} {n : Nat} {rs : List Reg} {addr v : Word} {f : RunFault}
    (h : readFault s rs = some f) : store n rs addr v s = .next (raise s f) := by
  simp [store, settle, guardRead, h]

theorem atomicPlain_unwritten {s : State} {n : Nat} {g : Word → Word → Word} {d r : Reg} {off : Word16}
    {f : RunFault} (h : readFault s [d, r] = some f) : atomicPlain n g d r off s = .next (raise s f) := by
  simp [atomicPlain, settle, guardRead, h]

theorem atomicFetch_unwritten {s : State} {n : Nat} {g : Word → Word → Word} {d r : Reg} {off : Word16}
    {f : RunFault} (hd : r ≠ .r10) (h : readFault s [d, r] = some f) :
    atomicFetch n g d r off s = .next (raise s f) := by
  simp [atomicFetch, settle, guardWrite_of_ne hd, guardRead, h]

theorem atomicCmpxchg_unwritten {s : State} {n : Nat} {c : Word → Word → Bool} {d r : Reg} {off : Word16}
    {f : RunFault} (h : readFault s [d, r, .r0] = some f) : atomicCmpxchg n c d r off s = .next (raise s f) := by
  simp [atomicCmpxchg, settle, guardRead, h]

/-! ### A misaligned address (20_memory.md R47, R52) -/

theorem load_misaligned {s : State} {n : Nat} {ext : Word → Word} {d r : Reg} {off : Word16} (hd : d ≠ .r10)
    (hr : Readable s [r]) (h : plainMisaligned s (loadAddr s r off) n = true) :
    load n ext d r off s = .next (raise s (.misaligned (loadAddr s r off) n)) := by
  simp [load, settle, guardWrite_of_ne hd, guardRead_of_readable hr, memRead, h]

theorem store_misaligned {s : State} {n : Nat} {rs : List Reg} {addr v : Word} (hr : Readable s rs)
    (h : plainMisaligned s addr n = true) : store n rs addr v s = .next (raise s (.misaligned addr n)) := by
  simp [store, settle, guardRead_of_readable hr, memWrite, h]

theorem atomicPlain_misaligned {s : State} {n : Nat} {g : Word → Word → Word} {d r : Reg} {off : Word16}
    (hr : Readable s [d, r]) (h : ¬ (storeAddr s d off).toNat % n = 0) :
    atomicPlain n g d r off s = .next (raise s (.misaligned (storeAddr s d off) n)) := by
  simp [atomicPlain, settle, guardRead_of_readable hr, atomicRmw, h]

theorem atomicFetch_misaligned {s : State} {n : Nat} {g : Word → Word → Word} {d r : Reg} {off : Word16}
    (hd : r ≠ .r10) (hr : Readable s [d, r]) (h : ¬ (storeAddr s d off).toNat % n = 0) :
    atomicFetch n g d r off s = .next (raise s (.misaligned (storeAddr s d off) n)) := by
  simp [atomicFetch, settle, guardWrite_of_ne hd, guardRead_of_readable hr, atomicRmw, h]

theorem atomicCmpxchg_misaligned {s : State} {n : Nat} {c : Word → Word → Bool} {d r : Reg} {off : Word16}
    (hr : Readable s [d, r, .r0]) (h : ¬ (storeAddr s d off).toNat % n = 0) :
    atomicCmpxchg n c d r off s = .next (raise s (.misaligned (storeAddr s d off) n)) := by
  simp [atomicCmpxchg, settle, guardRead_of_readable hr, atomicRmw, h]

/-! ### An access the platform does not admit (20_memory.md R46) -/

theorem load_refused {s : State} {n : Nat} {ext : Word → Word} {d r : Reg} {off : Word16} (hd : d ≠ .r10)
    (hr : Readable s [r]) (h : plainMisaligned s (loadAddr s r off) n = false)
    (ha : memAdmit s (loadAddr s r off) n .read = false) :
    load n ext d r off s = .next (raise s (.memoryAccess (loadAddr s r off) n .read)) := by
  simp [load, settle, guardWrite_of_ne hd, guardRead_of_readable hr, memRead, h, ha]

theorem store_refused {s : State} {n : Nat} {rs : List Reg} {addr v : Word} (hr : Readable s rs)
    (h : plainMisaligned s addr n = false) (ha : memAdmit s addr n .write = false) :
    store n rs addr v s = .next (raise s (.memoryAccess addr n .write)) := by
  simp [store, settle, guardRead_of_readable hr, memWrite, h, ha]

theorem atomicPlain_refused {s : State} {n : Nat} {g : Word → Word → Word} {d r : Reg} {off : Word16}
    (hr : Readable s [d, r]) (h : (storeAddr s d off).toNat % n = 0)
    (ha : memAdmit s (storeAddr s d off) n .atomic = false) :
    atomicPlain n g d r off s = .next (raise s (.memoryAccess (storeAddr s d off) n .atomic)) := by
  simp [atomicPlain, settle, guardRead_of_readable hr, atomicRmw, h, ha]

theorem atomicFetch_refused {s : State} {n : Nat} {g : Word → Word → Word} {d r : Reg} {off : Word16}
    (hd : r ≠ .r10) (hr : Readable s [d, r]) (h : (storeAddr s d off).toNat % n = 0)
    (ha : memAdmit s (storeAddr s d off) n .atomic = false) :
    atomicFetch n g d r off s = .next (raise s (.memoryAccess (storeAddr s d off) n .atomic)) := by
  simp [atomicFetch, settle, guardWrite_of_ne hd, guardRead_of_readable hr, atomicRmw, h, ha]

theorem atomicCmpxchg_refused {s : State} {n : Nat} {c : Word → Word → Bool} {d r : Reg} {off : Word16}
    (hr : Readable s [d, r, .r0]) (h : (storeAddr s d off).toNat % n = 0)
    (ha : memAdmit s (storeAddr s d off) n .atomic = false) :
    atomicCmpxchg n c d r off s = .next (raise s (.memoryAccess (storeAddr s d off) n .atomic)) := by
  simp [atomicCmpxchg, settle, guardRead_of_readable hr, atomicRmw, h, ha]

end Sys2Proof.Machine
end

