-- ==== Sys2Proof/Tests/Slice0.lean ====
section
/-! SUPPORT. Tests: the well-formedness smoke tests, one word for every constructor, single steps from the vectors
of 95_test_vectors.md, 96_vectors_alu_jump.md and 97_vectors_memory_faults.md, and a witness for the hypotheses of
every obligation. -/

namespace Sys2Proof.Tests

open Sys2Proof Sys2Proof.Machine

/-! ### Well-formedness: each check refuses an ill-formed term -/

def wrapping : Region :=
  { base := 0xffffffffffffffff#64, size := 2, read := true, write := true, atomic := true, widths := [1]
    shared := false, frame := none }

theorem test_region_wraps : wrapping.fits = false := by decide

theorem test_region_at_top_fits : ({ wrapping with size := 1 } : Region).fits = true := by decide

theorem test_platform_region_wraps : ({ resetPlatform with regions := [wrapping] } : Platform).wf = false := by decide

theorem test_platform_lacks_base32 : ({ resetPlatform with groups := [.base64] } : Platform).wf = false := by decide

theorem test_map_fd_bound_twice :
    ({ resetPlatform with mapsByFd := [(3#32, 1#64), (3#32, 2#64)] } : Platform).wf = false := by decide

theorem test_map_index_bound_twice :
    ({ resetPlatform with mapsByIdx := [(3#32, 1#64), (3#32, 1#64)] } : Platform).wf = false := by decide

theorem test_map_value_bound_twice :
    ({ resetPlatform with mapVals := [(3#64, 1#64), (3#64, 2#64)] } : Platform).wf = false := by decide

theorem test_variable_bound_twice :
    ({ resetPlatform with vars := [(3#32, 1#64), (3#32, 2#64)] } : Platform).wf = false := by decide

theorem test_code_address_bound_twice :
    ({ resetPlatform with codeAddrs := [(3, 1#64), (3, 2#64)] } : Platform).wf = false := by decide

theorem test_reset_platform_wf : resetPlatform.wf = true := by decide

theorem test_group_not_supported : (Instr.atomic64Add .r1 .r2 0#16).wf [.base32, .atomic32] = false := by decide

theorem test_group_contains_smaller : (Instr.atomic32Add .r1 .r2 0#16).wf [.base32, .atomic64] = true := by decide

/-! ### Decoding: a word for every constructor, from the encodings of 30_encoding.md and the family files -/

/-- Every word of the list, numbered as opcode_table.json numbers it, decodes to its instruction. -/
def decodesAll (l : List (Nat × Nat × Instr)) : Bool := l.all fun p => decodeTableWord p.1 p.2.1 == some p.2.2

/-- Words of 40_alu32.md. -/
theorem test_decode_alu32 :
    decodesAll
      [(64, 0x8102030600000204, .add32K .r2 0x81020306#32),
        (64, 0x000000000000730c, .add32X .r3 .r7),
        (64, 0x8306091000000414, .sub32K .r4 0x83060910#32),
        (64, 0x000000000000451c, .sub32X .r5 .r4),
        (64, 0x850a0f1a00000624, .mul32K .r6 0x850a0f1a#32),
        (64, 0x000000000000172c, .mul32X .r7 .r1),
        (64, 0x870e152400000834, .div32K .r8 0x870e1524#32),
        (64, 0x000000000000793c, .div32X .r9 .r7),
        (64, 0x89121b2e00010a34, .sdiv32K .r10 0x89121b2e#32),
        (64, 0x000000000001413c, .sdiv32X .r1 .r4),
        (64, 0x8b16213800000244, .or32K .r2 0x8b162138#32),
        (64, 0x000000000000134c, .or32X .r3 .r1),
        (64, 0x8d1a274200000454, .and32K .r4 0x8d1a2742#32),
        (64, 0x000000000000755c, .and32X .r5 .r7),
        (64, 0x8f1e2d4c00000664, .lsh32K .r6 0x8f1e2d4c#32),
        (64, 0x000000000000476c, .lsh32X .r7 .r4),
        (64, 0x9122335600000874, .rsh32K .r8 0x91223356#32),
        (64, 0x000000000000197c, .rsh32X .r9 .r1),
        (64, 0x0000000000000a84, .neg32 .r10),
        (64, 0x94283c6500000194, .mod32K .r1 0x94283c65#32),
        (64, 0x000000000000129c, .mod32X .r2 .r1),
        (64, 0x962c426f00010394, .smod32K .r3 0x962c426f#32),
        (64, 0x000000000001749c, .smod32X .r4 .r7),
        (64, 0x98304879000005a4, .xor32K .r5 0x98304879#32),
        (64, 0x00000000000046ac, .xor32X .r6 .r4),
        (64, 0x9a344e83000007b4, .mov32K .r7 0x9a344e83#32),
        (64, 0x00000000000018bc, .mov32X .r8 .r1),
        (64, 0x00000000000849bc, .movsx32From8 .r9 .r4),
        (64, 0x0000000000107abc, .movsx32From16 .r10 .r7),
        (64, 0x9e3c5a97000001c4, .arsh32K .r1 0x9e3c5a97#32),
        (64, 0x00000000000042cc, .arsh32X .r2 .r4)] = true := by
  decide

/-- Words of 41_alu64.md. -/
theorem test_decode_alu64 :
    decodesAll
      [(64, 0xa04060a100000307, .add64K .r3 0xa04060a1#32),
        (64, 0x000000000000140f, .add64X .r4 .r1),
        (64, 0xa24466ab00000517, .sub64K .r5 0xa24466ab#32),
        (64, 0x000000000000761f, .sub64X .r6 .r7),
        (64, 0xa4486cb500000727, .mul64K .r7 0xa4486cb5#32),
        (64, 0x000000000000482f, .mul64X .r8 .r4),
        (64, 0xa64c72bf00000937, .div64K .r9 0xa64c72bf#32),
        (64, 0x0000000000001a3f, .div64X .r10 .r1),
        (64, 0xa85078c900010137, .sdiv64K .r1 0xa85078c9#32),
        (64, 0x000000000001723f, .sdiv64X .r2 .r7),
        (64, 0xaa547ed300000347, .or64K .r3 0xaa547ed3#32),
        (64, 0x000000000000444f, .or64X .r4 .r4),
        (64, 0xac5884dd00000557, .and64K .r5 0xac5884dd#32),
        (64, 0x000000000000165f, .and64X .r6 .r1),
        (64, 0xae5c8ae700000767, .lsh64K .r7 0xae5c8ae7#32),
        (64, 0x000000000000786f, .lsh64X .r8 .r7),
        (64, 0xb06090f100000977, .rsh64K .r9 0xb06090f1#32),
        (64, 0x0000000000004a7f, .rsh64X .r10 .r4),
        (64, 0x0000000000000187, .neg64 .r1),
        (64, 0xb3669a0000000297, .mod64K .r2 0xb3669a00#32),
        (64, 0x000000000000439f, .mod64X .r3 .r4),
        (64, 0xb56aa00a00010497, .smod64K .r4 0xb56aa00a#32),
        (64, 0x000000000001159f, .smod64X .r5 .r1),
        (64, 0xb76ea614000006a7, .xor64K .r6 0xb76ea614#32),
        (64, 0x00000000000077af, .xor64X .r7 .r7),
        (64, 0xb972ac1e000008b7, .mov64K .r8 0xb972ac1e#32),
        (64, 0x00000000000049bf, .mov64X .r9 .r4),
        (64, 0x0000000000087abf, .movsx64From8 .r10 .r7),
        (64, 0x00000000001011bf, .movsx64From16 .r1 .r1),
        (64, 0x00000000002042bf, .movsx64From32 .r2 .r4),
        (64, 0xbe7cbb37000003c7, .arsh64K .r3 0xbe7cbb37#32),
        (64, 0x00000000000014cf, .arsh64X .r4 .r1)] = true := by
  decide

/-- Words of 42_byteswap.md. -/
theorem test_decode_byteswap :
    decodesAll
      [(64, 0x00000010000005d4, .le16 .r5),
        (64, 0x00000020000006d4, .le32 .r6),
        (64, 0x00000040000007d4, .le64 .r7),
        (64, 0x00000010000008dc, .be16 .r8),
        (64, 0x00000020000009dc, .be32 .r9),
        (64, 0x0000004000000adc, .be64 .r10),
        (64, 0x00000010000001d7, .bswap16 .r1),
        (64, 0x00000020000002d7, .bswap32 .r2),
        (64, 0x00000040000003d7, .bswap64 .r3)] = true := by
  decide

/-- Words of 43_jump.md. -/
theorem test_decode_jump :
    decodesAll
      [(64, 0x00000000d2fc0005, .ja 0xd2fc#16),
        (64, 0xca94df7300000006, .ja32 0xca94df73#32),
        (64, 0xf7ef675400000085, .callHelper 0xf7ef6754#32),
        (64, 0xf8f16a5900001085, .callLocal 0xf8f16a59#32),
        (64, 0xf9f36d5e00002085, .callBtf 0xf9f36d5e#32),
        (64, 0x0000000000000095, .exit)] = true := by
  decide

/-- Words of 43_jump_cond.md. -/
theorem test_decode_jump_cond :
    decodesAll
      [(64, 0xcb96e278d5420615, .jeq64K .r6 0xcb96e278#32 0xd542#16),
        (64, 0x00000000d665471d, .jeq64X .r7 .r4 0xd665#16),
        (64, 0xcd9ae882d7880816, .jeq32K .r8 0xcd9ae882#32 0xd788#16),
        (64, 0x00000000d8ab191e, .jeq32X .r9 .r1 0xd8ab#16),
        (64, 0xcf9eee8cd9ce0a25, .jgt64K .r10 0xcf9eee8c#32 0xd9ce#16),
        (64, 0x00000000daf1712d, .jgt64X .r1 .r7 0xdaf1#16),
        (64, 0xd1a2f496dc140226, .jgt32K .r2 0xd1a2f496#32 0xdc14#16),
        (64, 0x00000000dd37432e, .jgt32X .r3 .r4 0xdd37#16),
        (64, 0xd3a6faa0de5a0435, .jge64K .r4 0xd3a6faa0#32 0xde5a#16),
        (64, 0x00000000df7d153d, .jge64X .r5 .r1 0xdf7d#16),
        (64, 0xd5ab00aae0a00636, .jge32K .r6 0xd5ab00aa#32 0xe0a0#16),
        (64, 0x00000000e1c3773e, .jge32X .r7 .r7 0xe1c3#16),
        (64, 0xd7af06b4e2e60845, .jset64K .r8 0xd7af06b4#32 0xe2e6#16),
        (64, 0x00000000e409494d, .jset64X .r9 .r4 0xe409#16),
        (64, 0xd9b30cbee52c0a46, .jset32K .r10 0xd9b30cbe#32 0xe52c#16),
        (64, 0x00000000e64f114e, .jset32X .r1 .r1 0xe64f#16),
        (64, 0xdbb712c8e7720255, .jne64K .r2 0xdbb712c8#32 0xe772#16),
        (64, 0x00000000e895735d, .jne64X .r3 .r7 0xe895#16),
        (64, 0xddbb18d2e9b80456, .jne32K .r4 0xddbb18d2#32 0xe9b8#16),
        (64, 0x00000000eadb455e, .jne32X .r5 .r4 0xeadb#16),
        (64, 0xdfbf1edcebfe0665, .jsgt64K .r6 0xdfbf1edc#32 0xebfe#16),
        (64, 0x00000000ed21176d, .jsgt64X .r7 .r1 0xed21#16),
        (64, 0xe1c324e6ee440866, .jsgt32K .r8 0xe1c324e6#32 0xee44#16),
        (64, 0x00000000ef67796e, .jsgt32X .r9 .r7 0xef67#16),
        (64, 0xe3c72af0f08a0a75, .jsge64K .r10 0xe3c72af0#32 0xf08a#16),
        (64, 0x00000000f1ad417d, .jsge64X .r1 .r4 0xf1ad#16),
        (64, 0xe5cb30faf2d00276, .jsge32K .r2 0xe5cb30fa#32 0xf2d0#16),
        (64, 0x00000000f3f3137e, .jsge32X .r3 .r1 0xf3f3#16),
        (64, 0xe7cf3704f51604a5, .jlt64K .r4 0xe7cf3704#32 0xf516#16),
        (64, 0x00000000f63975ad, .jlt64X .r5 .r7 0xf639#16),
        (64, 0xe9d33d0ef75c06a6, .jlt32K .r6 0xe9d33d0e#32 0xf75c#16),
        (64, 0x00000000f87f47ae, .jlt32X .r7 .r4 0xf87f#16),
        (64, 0xebd74318f9a208b5, .jle64K .r8 0xebd74318#32 0xf9a2#16),
        (64, 0x00000000fac519bd, .jle64X .r9 .r1 0xfac5#16),
        (64, 0xeddb4922fbe80ab6, .jle32K .r10 0xeddb4922#32 0xfbe8#16),
        (64, 0x00000000fd0b71be, .jle32X .r1 .r7 0xfd0b#16),
        (64, 0xefdf4f2cfe2e02c5, .jslt64K .r2 0xefdf4f2c#32 0xfe2e#16),
        (64, 0x00000000ff5143cd, .jslt64X .r3 .r4 0xff51#16),
        (64, 0xf1e35536007404c6, .jslt32K .r4 0xf1e35536#32 0x0074#16),
        (64, 0x00000000019715ce, .jslt32X .r5 .r1 0x0197#16),
        (64, 0xf3e75b4002ba06d5, .jsle64K .r6 0xf3e75b40#32 0x02ba#16),
        (64, 0x0000000003dd77dd, .jsle64X .r7 .r7 0x03dd#16),
        (64, 0xf5eb614a050008d6, .jsle32K .r8 0xf5eb614a#32 0x0500#16),
        (64, 0x00000000062349de, .jsle32X .r9 .r4 0x0623#16)] = true := by
  decide

/-- Words of 44_load_store.md. -/
theorem test_decode_load_store :
    decodesAll
      [(64, 0x000000000bd21471, .ldxB .r4 .r1 0x0bd2#16),
        (64, 0x000000000cf54569, .ldxH .r5 .r4 0x0cf5#16),
        (64, 0x000000000e187661, .ldxW .r6 .r7 0x0e18#16),
        (64, 0x000000000f3b1779, .ldxDw .r7 .r1 0x0f3b#16),
        (64, 0xffff7f7c105e0872, .stB .r8 0xffff7f7c#32 0x105e#16),
        (64, 0x010182811181096a, .stH .r9 0x01018281#32 0x1181#16),
        (64, 0x0203858612a40a62, .stW .r10 0x02038586#32 0x12a4#16),
        (64, 0x0305888b13c7017a, .stDw .r1 0x0305888b#32 0x13c7#16),
        (64, 0x0000000014ea7273, .stxB .r2 .r7 0x14ea#16),
        (64, 0x00000000160d136b, .stxH .r3 .r1 0x160d#16),
        (64, 0x0000000017304463, .stxW .r4 .r4 0x1730#16),
        (64, 0x000000001853757b, .stxDw .r5 .r7 0x1853#16),
        (64, 0x0000000019761691, .ldxsB .r6 .r1 0x1976#16),
        (64, 0x000000001a994789, .ldxsH .r7 .r4 0x1a99#16),
        (64, 0x000000001bbc7881, .ldxsW .r8 .r7 0x1bbc#16)] = true := by
  decide

/-- Words of 45_atomic.md. -/
theorem test_decode_atomic :
    decodesAll
      [(64, 0x000000001cdf19c3, .atomic32Add .r9 .r1 0x1cdf#16),
        (64, 0x000000011e024ac3, .atomic32FetchAdd .r10 .r4 0x1e02#16),
        (64, 0x000000401f2571c3, .atomic32Or .r1 .r7 0x1f25#16),
        (64, 0x00000041204812c3, .atomic32FetchOr .r2 .r1 0x2048#16),
        (64, 0x00000050216b43c3, .atomic32And .r3 .r4 0x216b#16),
        (64, 0x00000051228e74c3, .atomic32FetchAnd .r4 .r7 0x228e#16),
        (64, 0x000000a023b115c3, .atomic32Xor .r5 .r1 0x23b1#16),
        (64, 0x000000a124d446c3, .atomic32FetchXor .r6 .r4 0x24d4#16),
        (64, 0x000000e125f777c3, .atomic32Xchg .r7 .r7 0x25f7#16),
        (64, 0x000000f1271a18c3, .atomic32Cmpxchg .r8 .r1 0x271a#16),
        (64, 0x00000000283d49db, .atomic64Add .r9 .r4 0x283d#16),
        (64, 0x0000000129607adb, .atomic64FetchAdd .r10 .r7 0x2960#16),
        (64, 0x000000402a8311db, .atomic64Or .r1 .r1 0x2a83#16),
        (64, 0x000000412ba642db, .atomic64FetchOr .r2 .r4 0x2ba6#16),
        (64, 0x000000502cc973db, .atomic64And .r3 .r7 0x2cc9#16),
        (64, 0x000000512dec14db, .atomic64FetchAnd .r4 .r1 0x2dec#16),
        (64, 0x000000a02f0f45db, .atomic64Xor .r5 .r4 0x2f0f#16),
        (64, 0x000000a1303276db, .atomic64FetchXor .r6 .r7 0x3032#16),
        (64, 0x000000e1315517db, .atomic64Xchg .r7 .r1 0x3155#16),
        (64, 0x000000f1327848db, .atomic64Cmpxchg .r8 .r4 0x3278#16)] = true := by
  decide

/-- Words of 46_imm64.md. -/
theorem test_decode_imm64 :
    decodesAll
      [(128, 0xc0009fda000000001f3ddd1700000918, .ldImm64 .r9 0x1f3ddd17#32 0xc0009fda#32),
        (128, 0x0000000000000000203fe01c00001a18, .ldMapFd .r10 0x203fe01c#32),
        (128, 0xc000a1e0000000002141e32100002118, .ldMapValFd .r1 0x2141e321#32 0xc000a1e0#32),
        (128, 0x00000000000000002243e62600003218, .ldVarAddr .r2 0x2243e626#32),
        (128, 0x00000000000000002345e92b00004318, .ldCodeAddr .r3 0x2345e92b#32),
        (128, 0x00000000000000002447ec3000005418, .ldMapIdx .r4 0x2447ec30#32),
        (128, 0xc000a5ec000000002549ef3500006518, .ldMapValIdx .r5 0x2549ef35#32 0xc000a5ec#32)] = true := by
  decide

/-- Words of 47_legacy_packet.md. -/
theorem test_decode_legacy_packet :
    decodesAll
      [(64, 0x264bf23a00000020, .ldAbsW 0x264bf23a#32),
        (64, 0x274df53f00000028, .ldAbsH 0x274df53f#32),
        (64, 0x284ff84400000030, .ldAbsB 0x284ff844#32),
        (64, 0x2951fb4900001040, .ldIndW .r1 0x2951fb49#32),
        (64, 0x2a53fe4e00004048, .ldIndH .r4 0x2a53fe4e#32),
        (64, 0x2b56015300007050, .ldIndB .r7 0x2b560153#32)] = true := by
  decide

/-- On a little-endian and on a big-endian host, the first two bytes of `ADD64_X x1, x2` and of `JA +1` are as
30_encoding.md R62 and R63 lay them out. -/
theorem test_decode_layouts :
    decode .little true [0x0f, 0x21, 0, 0, 0, 0, 0, 0] = .ok (.add64X .r1 .r2, []) ∧
      decode .big true [0x0f, 0x12, 0, 0, 0, 0, 0, 0] = .ok (.add64X .r1 .r2, []) ∧
      decode .little true [0x05, 0, 1, 0, 0, 0, 0, 0] = .ok (.ja 1#16, []) ∧
      decode .big true [0x05, 0, 0, 1, 0, 0, 0, 0] = .ok (.ja 1#16, []) := by
  and_intros <;> rfl

/-- Reserved selectors (30_encoding.md R81; V313, V315, V318, V323, V330, V334, V346, V349, V350). -/
theorem test_decode_reserved :
    decodeTableWord 64 0x000000000000218c = none ∧ decodeTableWord 64 0x00000000002021bc = none ∧
      decodeTableWord 64 0x0000000500020134 = none ∧ decodeTableWord 64 0x00000008000001d4 = none ∧
      decodeTableWord 64 0x0000000100003085 = none ∧ decodeTableWord 64 0x0000000100000b07 = none ∧
      decodeTableWord 64 0x000000e0000021c3 = none ∧ decodeTableWord 128 0x7118 = none ∧
      decode .little true [0x18, 0x01, 0, 0, 1, 0, 0, 0] = .error .missingSecondSlot := by
  and_intros <;> rfl

/-- Unused fields under both settings of STRICT_UNUSED (30_encoding.md R80; V354, V355). -/
theorem test_decode_unused :
    decode .little true [0x04, 0x21, 0, 0, 5, 0, 0, 0] = .error .unusedField ∧
      decode .little false [0x04, 0x21, 0, 0, 5, 0, 0, 0] = .ok (.add32K .r1 5#32, []) := by
  and_intros <;> rfl

/-- Reserved bits of a second slot, and an unused `next_imm`, under both settings (30_encoding.md R76;
93_implementation_defined.md U4). -/
theorem test_decode_second_slot :
    decode .little true [0x18, 0x01, 0, 0, 1, 0, 0, 0, 0, 0x03, 0, 0, 2, 0, 0, 0] = .error .unusedField ∧
      decode .little false [0x18, 0x01, 0, 0, 1, 0, 0, 0, 0, 0x03, 0, 0, 2, 0, 0, 0] =
        .ok (.ldImm64 .r1 1#32 2#32, []) ∧
      decode .little true [0x18, 0x11, 0, 0, 1, 0, 0, 0, 0, 0, 0, 0, 2, 0, 0, 0] = .error .unusedField ∧
      decode .little false [0x18, 0x11, 0, 0, 1, 0, 0, 0, 0, 0, 0, 0, 2, 0, 0, 0] = .ok (.ldMapFd .r1 1#32, []) ∧
      decode .little false [0x18, 0x01, 0, 0, 1, 0, 0, 0] = .error .missingSecondSlot := by
  and_intros <;> rfl

/-- A byte swap's `offset` is checked under both settings (30_encoding.md R76, R81 item 2; log 23), its `src_reg`
under STRICT_UNUSED alone (42_byteswap.md R192). -/
theorem test_decode_swap_offset :
    decode .little true [0xd4, 0x01, 1, 0, 16, 0, 0, 0] = .error (.reservedOffset 1#16) ∧
      decode .little false [0xd4, 0x01, 1, 0, 16, 0, 0, 0] = .error (.reservedOffset 1#16) ∧
      decode .little true [0xd4, 0x21, 0, 0, 16, 0, 0, 0] = .error .unusedField ∧
      decode .little false [0xd4, 0x21, 0, 0, 16, 0, 0, 0] = .ok (.le16 .r1, []) := by
  and_intros <;> rfl

/-! ### Single steps: the spec's vectors -/

/-- The test platform of 95_test_vectors.md: 256 bytes at 0x1000, one helper, two maps, one variable, code addresses;
an unwritten read raises. -/
def testPlatform : Platform :=
  { resetPlatform with
    unwrittenRaises := true
    regions :=
      { base := 0x1000#64, size := 256, read := true, write := true, atomic := true, widths := [1, 2, 4, 8]
        shared := false, frame := none } :: resetPlatform.regions
    helpers := [(.static, 7#32)]
    mapsByFd := [(3#32, 0xa000#64)]
    mapsByIdx := [(0#32, 0xa000#64), (1#32, 0xb000#64)]
    mapVals := [(0xa000#64, 0x200000#64)]
    vars := [(5#32, 0x300000#64)]
    codeAddrs := [(0, 0x400000#64), (1, 0x400008#64)] }

/-- A platform that admits 4-byte reads alone at 0x2000 (00_scope.md R7: `MemAdmit` tells widths apart). -/
def wordReads : Platform :=
  { resetPlatform with
    regions :=
      [{ base := 0x2000#64, size := 8, read := true, write := false, atomic := false, widths := [4], shared := false
         frame := none }] }

theorem test_admit_one_width :
    memAdmit (.enter wordReads []) 0x2000#64 4 .read = true ∧
        memAdmit (.enter wordReads []) 0x2000#64 1 .read = false ∧
      memAdmit (.enter wordReads []) 0x2000#64 8 .read = false ∧
      memAdmit (.enter wordReads []) 0x2000#64 4 .write = false := by
  decide

/-- `ENTRY` may supply `x[2]` to `x[5]` (10_state.md R35). -/
def supplying : Platform :=
  { resetPlatform with entry := { ctx := 0x4000#64, x2 := some 7#64, x3 := none, x4 := none, x5 := some 9#64 } }

theorem test_enter_supplied :
    (State.enter supplying []).x.r1 = .of 0x4000#64 ∧ (State.enter supplying []).x.r2 = .of 7#64 ∧
      (State.enter supplying []).x.r3.written = false ∧ (State.enter supplying []).x.r5 = .of 9#64 := by
  decide

/-- A state with `x[1] = a` and `x[2] = b` written, `x[0]` and `x[3]` to `x[9]` unwritten, and the program `prog`. -/
def small (e : Endian) (prog : List Slot) (a b : Word) : State :=
  { State.reset with
    x := { RegFile.entry resetPlatform with r1 := .of a, r2 := .of b }
    prog := prog
    cfg := { testPlatform with hostEndian := e } }

/-- The next state of an outcome, if there is one. -/
def nextOf (o : Host.Outcome State Fault Refusal) : Option State :=
  match o with
  | .next t => some t
  | .fault _ => none
  | .refused _ => none

/-- Each entry: host, slot, `x[1]`, `x[2]`; then `x[1]` and pc after one step, which still runs. -/
def stepsAll (l : List (Endian × Slot × Word × Word × Word × Int)) : Bool :=
  l.all fun p =>
    match nextOf (step (small p.1 [p.2.1] p.2.2.1 p.2.2.2.1)) with
    | none => false
    | some t => t.x.r1 == .of p.2.2.2.2.1 && t.pc == p.2.2.2.2.2 && t.status == .running && t.x.r2 == .of p.2.2.2.1

/-- Vectors of 96_vectors_alu_jump.md for 40_alu32.md. -/
theorem test_step_alu32 :
    stepsAll
      [(.little, 0xffffffff00000104, 0x100000005, 0x0, 0x4, 1),
        (.little, 0x000000000000110c, 0xffffffff80000000, 0x0, 0x0, 1),
        (.little, 0x0000000100000114, 0x8000000000000000, 0x0, 0xffffffff, 1),
        (.little, 0x000000000000211c, 0x5, 0xffffffff00000007, 0xfffffffe, 1),
        (.little, 0xfffffffe00000124, 0x3, 0x0, 0xfffffffa, 1),
        (.little, 0x000000000000212c, 0xffffffff, 0xffffffff, 0x1, 1),
        (.little, 0xffffffff00000134, 0x5, 0x0, 0x0, 1),
        (.little, 0x000000000000213c, 0x7, 0x100000000, 0x0, 1),
        (.little, 0xfffffffe00010134, 0x7, 0x0, 0xfffffffd, 1),
        (.little, 0x000000000001213c, 0xfffffff9, 0x0, 0x0, 1),
        (.little, 0x8000000000000144, 0x100000001, 0x0, 0x80000001, 1),
        (.little, 0x000000000000214c, 0xf, 0xfffffffff0000000, 0xf000000f, 1),
        (.little, 0xfffffff000000154, 0xffffffffffffffff, 0x0, 0xfffffff0, 1),
        (.little, 0x000000000000215c, 0x12345678, 0xffff, 0x5678, 1),
        (.little, 0x0000002000000164, 0xffffffff00000003, 0x0, 0x3, 1),
        (.little, 0x000000000000216c, 0x40000001, 0xffffffffffffffe1, 0x80000002, 1),
        (.little, 0x0000003f00000174, 0xffffffff80000000, 0x0, 0x1, 1),
        (.little, 0x000000000000217c, 0xffffffff80000000, 0x4, 0x8000000, 1),
        (.little, 0x0000000000000184, 0x1234567800000000, 0x0, 0x0, 1),
        (.little, 0x0000000000000194, 0xaaaaaaaa00000007, 0x0, 0x7, 1),
        (.little, 0x000000000000219c, 0xfffffffe, 0x7, 0x2, 1),
        (.little, 0xfffffffd00010194, 0xd, 0x0, 0x1, 1),
        (.little, 0x000000000001219c, 0xbbbbbbbbfffffff3, 0x0, 0xfffffff3, 1),
        (.little, 0x0000ffff000001a4, 0xffffffff00ff00ff, 0x0, 0xffff00, 1),
        (.little, 0x00000000000011ac, 0x123456789abcdef0, 0x0, 0x0, 1),
        (.little, 0xffffffff000001b4, 0x0, 0x0, 0xffffffff, 1),
        (.little, 0x00000000000011bc, 0xffffffff80000000, 0x0, 0x80000000, 1),
        (.little, 0x00000000000821bc, 0x0, 0x80, 0xffffff80, 1),
        (.little, 0x00000000001021bc, 0x0, 0xffffffff00018000, 0xffff8000, 1),
        (.little, 0x00000004000001c4, 0xffffffff40000000, 0x0, 0x4000000, 1),
        (.little, 0x00000000000021cc, 0x80000000, 0x3f, 0xffffffff, 1)] = true := by
  decide

/-- Vectors of 96_vectors_alu_jump.md for 41_alu64.md. -/
theorem test_step_alu64 :
    stepsAll
      [(.little, 0x7fffffff00000107, 0xffffffff80000001, 0x0, 0x0, 1),
        (.little, 0x000000000000210f, 0xffffffffffffffff, 0x1, 0x0, 1),
        (.little, 0x8000000000000117, 0x0, 0x0, 0x80000000, 1),
        (.little, 0x000000000000211f, 0x0, 0x1, 0xffffffffffffffff, 1),
        (.little, 0xffffffff00000127, 0x5, 0x0, 0xfffffffffffffffb, 1),
        (.little, 0x000000000000212f, 0x100000000, 0x100000000, 0x0, 1),
        (.little, 0x0000000000000137, 0x9, 0x0, 0x0, 1),
        (.little, 0x000000000000213f, 0xffffffffffffffff, 0x2, 0x7fffffffffffffff, 1),
        (.little, 0xfffffffe00010137, 0x7, 0x0, 0xfffffffffffffffd, 1),
        (.little, 0x000000000001213f, 0xfffffffffffffff9, 0x0, 0x0, 1),
        (.little, 0x8000000000000147, 0x1, 0x0, 0xffffffff80000001, 1),
        (.little, 0x000000000000214f, 0xf0, 0xf00000000000000, 0xf000000000000f0, 1),
        (.little, 0x7fffffff00000157, 0xffffffffffffffff, 0x0, 0x7fffffff, 1),
        (.little, 0x000000000000215f, 0x123456789abcdeff, 0xffffffff00000000, 0x1234567800000000, 1),
        (.little, 0x0000003f00000167, 0x3, 0x0, 0x8000000000000000, 1),
        (.little, 0x000000000000216f, 0x1, 0x40, 0x1, 1),
        (.little, 0x0000002000000177, 0x8000000000000000, 0x0, 0x80000000, 1),
        (.little, 0x000000000000217f, 0x8000000000000000, 0x7f, 0x1, 1),
        (.little, 0x0000000000000187, 0x8000000000000000, 0x0, 0x8000000000000000, 1),
        (.little, 0xffffffff00000197, 0x5, 0x0, 0x5, 1),
        (.little, 0x000000000000219f, 0xaaaaaaaa00000007, 0x0, 0xaaaaaaaa00000007, 1),
        (.little, 0xfffffffd00010197, 0xd, 0x0, 0x1, 1),
        (.little, 0x000000000001219f, 0xfffffffffffffff3, 0x0, 0xfffffffffffffff3, 1),
        (.little, 0xffffffff000001a7, 0xff00ff00ff00ff, 0x0, 0xff00ff00ff00ff00, 1),
        (.little, 0x00000000000021af, 0xff, 0xf, 0xf0, 1),
        (.little, 0x7fffffff000001b7, 0x0, 0x0, 0x7fffffff, 1),
        (.little, 0x000000000000a1bf, 0x0, 0x0, 0x10000, 1),
        (.little, 0x00000000000821bf, 0x0, 0x1234567890abcd80, 0xffffffffffffff80, 1),
        (.little, 0x00000000001021bf, 0x0, 0x18000, 0xffffffffffff8000, 1),
        (.little, 0x00000000002021bf, 0x0, 0xffffffff7fffffff, 0x7fffffff, 1),
        (.little, 0x00000004000001c7, 0x4000000000000000, 0x0, 0x400000000000000, 1),
        (.little, 0x00000000000021cf, 0xffffffff00000000, 0x50, 0xffffffffffff0000, 1)] = true := by
  decide

/-- Vectors of 96_vectors_alu_jump.md for 42_byteswap.md. -/
theorem test_step_byteswap :
    stepsAll
      [(.little, 0x00000010000001d4, 0x102030405060708, 0x0, 0x708, 1),
        (.big, 0x10000000000010d4, 0x102030405060708, 0x0, 0x807, 1),
        (.little, 0x00000020000001d4, 0x102030405060708, 0x0, 0x5060708, 1),
        (.big, 0x20000000000010d4, 0x102030405060708, 0x0, 0x8070605, 1),
        (.little, 0x00000040000001d4, 0x102030405060708, 0x0, 0x102030405060708, 1),
        (.big, 0x40000000000010d4, 0x102030405060708, 0x0, 0x807060504030201, 1),
        (.little, 0x00000010000001dc, 0x102030405060708, 0x0, 0x807, 1),
        (.big, 0x10000000000010dc, 0x102030405060708, 0x0, 0x708, 1),
        (.little, 0x00000020000001dc, 0x102030405060708, 0x0, 0x8070605, 1),
        (.big, 0x20000000000010dc, 0x102030405060708, 0x0, 0x5060708, 1),
        (.little, 0x00000040000001dc, 0x102030405060708, 0x0, 0x807060504030201, 1),
        (.big, 0x40000000000010dc, 0x102030405060708, 0x0, 0x102030405060708, 1),
        (.little, 0x00000010000001d7, 0x102030405060708, 0x0, 0x807, 1),
        (.little, 0x00000020000001d7, 0x102030405060708, 0x0, 0x8070605, 1),
        (.little, 0x00000040000001d7, 0x102030405060708, 0x0, 0x807060504030201, 1)] = true := by
  decide

/-- Vectors of 96_vectors_alu_jump.md for 43_jump_cond.md. -/
theorem test_step_jump_cond :
    stepsAll
      [(.little, 0x000000000005111d, 0x7, 0x0, 0x7, 6),
        (.little, 0x000000000005211e, 0x80000000, 0x7fffffff, 0x80000000, 1),
        (.little, 0xffffffff00050115, 0xffffffffffffffff, 0x0, 0xffffffffffffffff, 6),
        (.little, 0x0000000100050116, 0xffffffff00000000, 0x0, 0xffffffff00000000, 1),
        (.little, 0x000000000005212d, 0x8000000000000000, 0x8000000000000000, 0x8000000000000000, 1),
        (.little, 0x000000000005212e, 0x80000000, 0x7fffffff, 0x80000000, 6),
        (.little, 0xffffffff00050125, 0xffffffffffffffff, 0x0, 0xffffffffffffffff, 1),
        (.little, 0x0000000100050126, 0xffffffff00000000, 0x0, 0xffffffff00000000, 1),
        (.little, 0x000000000005213d, 0x8000000000000000, 0x8000000000000000, 0x8000000000000000, 6),
        (.little, 0x000000000005213e, 0x80000000, 0x7fffffff, 0x80000000, 6),
        (.little, 0xffffffff00050135, 0xffffffffffffffff, 0x0, 0xffffffffffffffff, 6),
        (.little, 0x0000000100050136, 0xffffffff00000000, 0x0, 0xffffffff00000000, 1),
        (.little, 0x000000000005214d, 0x8000000000000000, 0x8000000000000000, 0x8000000000000000, 6),
        (.little, 0x000000000005214e, 0x80000000, 0x7fffffff, 0x80000000, 1),
        (.little, 0x8000000000050145, 0x8000000000000000, 0x0, 0x8000000000000000, 6),
        (.little, 0x8000000000050146, 0x8000000000000000, 0x0, 0x8000000000000000, 1),
        (.little, 0x000000000005215d, 0x8000000000000000, 0x8000000000000000, 0x8000000000000000, 1),
        (.little, 0x000000000005215e, 0x80000000, 0x7fffffff, 0x80000000, 6),
        (.little, 0xffffffff00050155, 0xffffffffffffffff, 0x0, 0xffffffffffffffff, 1),
        (.little, 0x0000000100050156, 0xffffffff00000000, 0x0, 0xffffffff00000000, 6),
        (.little, 0x000000000005216d, 0x8000000000000000, 0x8000000000000000, 0x8000000000000000, 1),
        (.little, 0x000000000005216e, 0x80000000, 0x7fffffff, 0x80000000, 1),
        (.little, 0xffffffff00050165, 0xffffffffffffffff, 0x0, 0xffffffffffffffff, 1),
        (.little, 0x0000000100050166, 0xffffffff00000000, 0x0, 0xffffffff00000000, 1),
        (.little, 0x000000000005217d, 0x8000000000000000, 0x8000000000000000, 0x8000000000000000, 6),
        (.little, 0x000000000005217e, 0x80000000, 0x7fffffff, 0x80000000, 1),
        (.little, 0xffffffff00050175, 0xffffffffffffffff, 0x0, 0xffffffffffffffff, 6),
        (.little, 0x0000000100050176, 0xffffffff00000000, 0x0, 0xffffffff00000000, 1),
        (.little, 0x00000000000521ad, 0x8000000000000000, 0x8000000000000000, 0x8000000000000000, 1),
        (.little, 0x00000000000521ae, 0x80000000, 0x7fffffff, 0x80000000, 1),
        (.little, 0xffffffff000501a5, 0xffffffffffffffff, 0x0, 0xffffffffffffffff, 1),
        (.little, 0x00000001000501a6, 0xffffffff00000000, 0x0, 0xffffffff00000000, 6),
        (.little, 0x00000000000521bd, 0x8000000000000000, 0x8000000000000000, 0x8000000000000000, 6),
        (.little, 0x00000000000521be, 0x80000000, 0x7fffffff, 0x80000000, 1),
        (.little, 0xffffffff000501b5, 0xffffffffffffffff, 0x0, 0xffffffffffffffff, 6),
        (.little, 0x00000001000501b6, 0xffffffff00000000, 0x0, 0xffffffff00000000, 6),
        (.little, 0x00000000000521cd, 0x8000000000000000, 0x8000000000000000, 0x8000000000000000, 1),
        (.little, 0x00000000000521ce, 0x80000000, 0x7fffffff, 0x80000000, 6),
        (.little, 0xffffffff000501c5, 0xffffffffffffffff, 0x0, 0xffffffffffffffff, 1),
        (.little, 0x00000001000501c6, 0xffffffff00000000, 0x0, 0xffffffff00000000, 6),
        (.little, 0x00000000000521dd, 0x8000000000000000, 0x8000000000000000, 0x8000000000000000, 6),
        (.little, 0x00000000000521de, 0x80000000, 0x7fffffff, 0x80000000, 6),
        (.little, 0xffffffff000501d5, 0xffffffffffffffff, 0x0, 0xffffffffffffffff, 6),
        (.little, 0x00000001000501d6, 0xffffffff00000000, 0x0, 0xffffffff00000000, 6)] = true := by
  decide

/-- The eight bytes 88 77 66 85 44 33 22 91 at 0x1008, as the load vectors have them. -/
def loadBytes : Memory :=
  Memory.putBytes [] 0x1008#64 [0x88, 0x77, 0x66, 0x85, 0x44, 0x33, 0x22, 0x91]

/-- `x[1]` after one load from 0x1000 + 8, with those bytes in memory. -/
def loaded (e : Endian) (w : Slot) : Option Cell :=
  (nextOf (step { small e [w] 0#64 0x1000#64 with mem := loadBytes })).map fun t => t.x.r1

/-- V225 to V238, one host each. -/
theorem test_step_loads :
    loaded .little 0x0000000000082171 = some (.of 0x88#64) ∧
      loaded .big 0x0000000008001269 = some (.of 0x8877#64) ∧
      loaded .little 0x0000000000082161 = some (.of 0x85667788#64) ∧
      loaded .big 0x0000000008001279 = some (.of 0x8877668544332291#64) ∧
      loaded .big 0x0000000008001291 = some (.of 0xffffffffffffff88#64) ∧
      loaded .big 0x0000000008001289 = some (.of 0xffffffffffff8877#64) ∧
      loaded .little 0x0000000000082181 = some (.of 0xffffffff85667788#64) := by
  decide

/-- Memory after one store to 0x1000 + 16 of the immediate or of 0x1122334455667788. -/
def storedBytes (e : Endian) (w : Slot) : Option Memory :=
  (nextOf (step (small e [w] 0x1000#64 0x1122334455667788#64))).map fun t => t.mem

/-- V248, V251, V252, V255, V256, V259, V261, V262. -/
theorem test_step_stores :
    storedBytes .little 0x818283f400100172 = some [(0x1010, 0xf4#8)] ∧
      storedBytes .big 0xf48382811000106a = some [(0x1010, 0x83#8), (0x1011, 0xf4#8)] ∧
      storedBytes .little 0x818283f400100162 =
        some [(0x1010, 0xf4#8), (0x1011, 0x83#8), (0x1012, 0x82#8), (0x1013, 0x81#8)] ∧
      storedBytes .big 0xf48382811000107a =
        some (Memory.putBytes [] 0x1010#64 [0xff, 0xff, 0xff, 0xff, 0x81, 0x82, 0x83, 0xf4]) ∧
      storedBytes .little 0x0000000000102173 = some [(0x1010, 0x88#8)] ∧
      storedBytes .big 0x000000001000126b = some [(0x1010, 0x77#8), (0x1011, 0x88#8)] ∧
      storedBytes .big 0x0000000010001263 =
        some [(0x1010, 0x55#8), (0x1011, 0x66#8), (0x1012, 0x77#8), (0x1013, 0x88#8)] ∧
      storedBytes .little 0x000000000010217b =
        some (Memory.putBytes [] 0x1010#64 [0x88, 0x77, 0x66, 0x55, 0x44, 0x33, 0x22, 0x11]) := by
  decide

/-- `x[0]`, `x[2]` and the bytes from 0x1008 on after one atomic operation with `x[0] = r0`, `x[1] = 0x1000`,
`x[2] = 0x7000000ff` on the bytes `bs`. -/
def swapped (w : Slot) (r0 : Word) (bs : List Byte) : Option (Word × Word × List Byte) :=
  let s := small .little [w] 0x1000#64 0x7000000ff#64
  (nextOf (step { s with x := { s.x with r0 := .of r0 }, mem := Memory.putBytes [] 0x1008#64 bs })).map fun t =>
    (t.x.r0.val, t.x.r2.val, t.mem.map Prod.snd)

/-- The bytes of the 32-bit and of the 64-bit atomic vectors. -/
def old32 : List Byte := [0xf0, 0xff, 0xff, 0xff]

def old64 : List Byte := [0xf0, 0xff, 0xff, 0xff, 0xff, 0xff, 0xff, 0xff]

/-- V268 to V278. -/
theorem test_step_atomic32 :
    swapped 0x00000000000821c3 1 old32 = some (1, 0x7000000ff, [0xef, 0, 0, 0]) ∧
      swapped 0x00000001000821c3 1 old32 = some (1, 0xfffffff0, [0xef, 0, 0, 0]) ∧
      swapped 0x00000040000821c3 1 old32 = some (1, 0x7000000ff, [0xff, 0xff, 0xff, 0xff]) ∧
      swapped 0x00000041000821c3 1 old32 = some (1, 0xfffffff0, [0xff, 0xff, 0xff, 0xff]) ∧
      swapped 0x00000050000821c3 1 old32 = some (1, 0x7000000ff, [0xf0, 0, 0, 0]) ∧
      swapped 0x00000051000821c3 1 old32 = some (1, 0xfffffff0, [0xf0, 0, 0, 0]) ∧
      swapped 0x000000a0000821c3 1 old32 = some (1, 0x7000000ff, [0x0f, 0xff, 0xff, 0xff]) ∧
      swapped 0x000000a1000821c3 1 old32 = some (1, 0xfffffff0, [0x0f, 0xff, 0xff, 0xff]) ∧
      swapped 0x000000e1000821c3 1 old32 = some (1, 0xfffffff0, [0xff, 0, 0, 0]) ∧
      swapped 0x000000f1000821c3 0xfffffffffffffff0 old32 = some (0xfffffff0, 0x7000000ff, [0xff, 0, 0, 0]) ∧
      swapped 0x000000f1000821c3 1 old32 = some (0xfffffff0, 0x7000000ff, old32) := by
  and_intros <;> decide

/-- V279 to V289. -/
theorem test_step_atomic64 :
    swapped 0x00000000000821db 1 old64 = some (1, 0x7000000ff, [0xef, 0, 0, 0, 7, 0, 0, 0]) ∧
      swapped 0x00000001000821db 1 old64 = some (1, 0xfffffffffffffff0, [0xef, 0, 0, 0, 7, 0, 0, 0]) ∧
      swapped 0x00000040000821db 1 old64 = some (1, 0x7000000ff, [0xff, 0xff, 0xff, 0xff, 0xff, 0xff, 0xff, 0xff]) ∧
      swapped 0x00000041000821db 1 old64 =
        some (1, 0xfffffffffffffff0, [0xff, 0xff, 0xff, 0xff, 0xff, 0xff, 0xff, 0xff]) ∧
      swapped 0x00000050000821db 1 old64 = some (1, 0x7000000ff, [0xf0, 0, 0, 0, 7, 0, 0, 0]) ∧
      swapped 0x00000051000821db 1 old64 = some (1, 0xfffffffffffffff0, [0xf0, 0, 0, 0, 7, 0, 0, 0]) ∧
      swapped 0x000000a0000821db 1 old64 = some (1, 0x7000000ff, [0x0f, 0xff, 0xff, 0xff, 0xf8, 0xff, 0xff, 0xff]) ∧
      swapped 0x000000a1000821db 1 old64 =
        some (1, 0xfffffffffffffff0, [0x0f, 0xff, 0xff, 0xff, 0xf8, 0xff, 0xff, 0xff]) ∧
      swapped 0x000000e1000821db 1 old64 = some (1, 0xfffffffffffffff0, [0xff, 0, 0, 0, 7, 0, 0, 0]) ∧
      swapped 0x000000f1000821db 0xfffffffffffffff0 old64 =
        some (0xfffffffffffffff0, 0x7000000ff, [0xff, 0, 0, 0, 7, 0, 0, 0]) ∧
      swapped 0x000000f1000821db 1 old64 = some (0xfffffffffffffff0, 0x7000000ff, old64) := by
  and_intros <;> decide

/-- `x[1]` and the pc after one 64-bit immediate instruction on the test platform. -/
def wide (w w2 : Slot) : Option (Word × Int × Status) :=
  (nextOf (step (small .little [w, w2] 0#64 0#64))).map fun t => (t.x.r1.val, t.pc, t.status)

/-- V298, V301, V302, V303, V304, V308, V309, V310; and LD_CODE_ADDR with imm = -1 naming slot 0 (R314). -/
theorem test_step_imm64 :
    wide 0x5566778800000118 0x1122334400000000 = some (0x1122334455667788, 2, .running) ∧
      wide 0x0000000300001118 0 = some (0xa000, 2, .running) ∧
      wide 0x0000000400001118 0 = some (0, 0, .faulted (.unknownObject 0 .mapFd 4#32)) ∧
      wide 0x0000000300002118 0x0000001000000000 = some (0x200010, 2, .running) ∧
      wide 0x0000000500003118 0 = some (0x300000, 2, .running) ∧
      wide 0xffffffff00004118 0 = some (0x400000, 2, .running) ∧
      wide 0x0000000100005118 0 = some (0xb000, 2, .running) ∧
      wide 0x0000000000006118 0x0000002000000000 = some (0x200020, 2, .running) ∧
      wide 0x0000000100006118 0 = some (0, 0, .faulted (.unknownObject 0 .mapIndex 1#32)) := by
  and_intros <;> decide

/-- The pc and status after one step from slot `pc` of a program. -/
def moved (prog : List Slot) (pc : Int) : Option (Int × Status) :=
  (nextOf (step { small .little prog 0x1000#64 1#64 with pc := pc })).map fun t => (t.pc, t.status)

/-- JA backward and JA32 with a negative immediate (R203, R204); V214's offset -2. -/
theorem test_step_jumps :
    moved [0, 0, 0, 0x00000000fffe0005] 3 = some (2, .running) ∧
      moved [0, 0, 0, 0xfffffffe00000006] 3 = some (2, .running) ∧
      moved [0x0000000700000006] 0 = some (8, .running) := by
  decide

/-- V373, V312, V219, V220, V370, V374, V376, V243, V266: the faults, each with what it records. -/
theorem test_step_faults :
    moved [0x05] 1 = some (1, .faulted (.badPc 1)) ∧
      moved [0x00] 0 = some (0, .faulted (.illegalInstruction 0)) ∧
      moved [0x0000000800000085] 0 = some (0, .faulted (.unknownHelper 0 .static 8#32)) ∧
      moved [0x0000000700002085] 0 = some (0, .faulted (.unknownHelper 0 .btf 7#32)) ∧
      moved [0x0000000e00000020] 0 = some (0, .faulted (.illegalInstruction 0)) ∧
      moved [0xfffffff800000a07] 0 = some (0, .faulted (.framePointerWrite 0)) ∧
      moved [0x000000000000310f] 0 = some (0, .faulted (.unwrittenRegister 0 .r3)) ∧
      moved [0x0000000000091261] 0 = some (0, .faulted (.misaligned 0x1009#64 4)) ∧
      moved [0x0000000001002173] 0 = some (0, .faulted (.memoryAccess 0x1100#64 1 .write)) := by
  decide

/-- V221: a program-local call pushes the frame and moves `x[10]` (R253); V222: not past MAX_CALL_DEPTH. -/
theorem test_step_call_local :
    (nextOf (step { small .little [0, 0, 0x0000000400001085] 1#64 0#64 with pc := 2 })).map
        (fun t => (t.pc, t.x.r10, t.callstack.map fun f => (f.ret, f.fp, f.x6.written)))
      = some (7, .of 0xfe00#64, [(3, .of 0x10000#64, false)]) ∧
    (nextOf (step { small .little [0, 0, 0xffffffff00001085] 1#64 0#64 with
        pc := 2, cfg := { testPlatform with maxCallDepth := some 0 } })).map (fun t => t.status)
      = some (.faulted (.callDepth 2)) := by
  decide

/-- V223 and V224: EXIT with an empty call stack. -/
theorem test_step_exit :
    (nextOf (step { small .little [0x95] 1#64 0#64 with
        x := { RegFile.entry resetPlatform with r0 := .of 0xdeadbeef#64 } })).map (fun t => t.status)
      = some (.exited 0xdeadbeef#64) ∧
    moved [0x95] 0 = some (0, .faulted (.unwrittenRegister 0 .r0)) := by
  decide

/-- An instance that has exited does not step (60_exceptions.md R355). -/
theorem test_step_stopped : step { State.reset with status := .exited 0#64 } = .fault .stopped := by rfl

/-! ### Witnesses: the hypotheses of every obligation can be met

`ready` has every register written, the address 0xfff0 in `x[0]` to `x[9]` inside the frame of depth 0, and a
platform that raises on an unwritten read. -/

/-- Registers that all hold `v`, `x[10]` the frame address of depth 0. -/
def regs (v : Word) : RegFile :=
  { r0 := .of v, r1 := .of v, r2 := .of v, r3 := .of v, r4 := .of v, r5 := .of v, r6 := .of v, r7 := .of v
    r8 := .of v, r9 := .of v, r10 := .of 0x10000#64 }

def ready : State :=
  { State.reset with
    x := regs 0xfff0#64
    prog := [0x95#64, 0x95#64]
    cfg := { testPlatform with helpers := [(.static, 7#32), (.btf, 9#32)] } }

/-- The same on a big-endian host. -/
def readyBig : State := { ready with cfg := { ready.cfg with hostEndian := .big } }

/-- A frame of a call from slot 0. -/
def frame0 : Frame :=
  { ret := 1, x6 := .of 6#64, x7 := .of 7#64, x8 := .unwritten, x9 := .unwritten, fp := .of 0x10000#64 }

/-- Inside one program-local call: slot 0 called slot 1. -/
def called : State :=
  { ready with
    x := { ready.x with r10 := .of 0xfe00#64 }
    pc := 1
    callstack := [frame0]
    prog := [0x0000000000001085#64, 0x95#64] }

/-- The state with a program. -/
def withProg (s : State) (prog : List Slot) : State := { s with prog := prog }

theorem next_of_some {o : Host.Outcome State Fault Refusal} {t : State} (h : nextOf o = some t) : o = .next t := by
  cases o <;> simp_all [nextOf]

theorem exists_next {o : Host.Outcome State Fault Refusal} (h : (nextOf o).isSome = true) : ∃ t, o = .next t := by
  obtain ⟨t, ht⟩ := Option.isSome_iff_exists.mp h
  exact ⟨t, next_of_some ht⟩

/-- An outcome with a next state that passes a check. -/
theorem exists_next_with {o : Host.Outcome State Fault Refusal} {p : State → Bool}
    (h : (nextOf o).any p = true) : ∃ t, o = .next t ∧ p t = true := by
  cases o <;> simp_all [nextOf]

theorem called_inv : called.Inv where
  memory := by decide
  framePointer := by rfl
  savedPointers := by
    intro k f h
    match k, h with
    | 0, h => cases h; rfl
    | n + 1, h => simp [called] at h
  depth := by intro n h; cases h; decide
  returns := by
    intro f h
    simp only [called, List.mem_singleton] at h
    subst h
    exact .inl (by decide)

theorem test_witness_ResetState :
    (Reg.r0 ≠ .r1 ∧ Reg.r0 ≠ .r10) ∧ supplying.entry.x2 = some 7#64 ∧ supplying.entry.x3 = none := by decide

theorem test_witness_StepKeepsInvariant : called.Inv ∧ ∃ t, step called = .next t :=
  ⟨called_inv, exists_next (by decide)⟩

theorem test_witness_EncodeOfDecode :
    decode .little true [0x07, 0x01, 0, 0, 0x44, 0x33, 0x22, 0x11, 0xaa] =
        .ok (.add64K .r1 0x11223344#32, [0xaa#8]) ∧
      decode .big true [0x07, 0x10, 0, 0, 0x11, 0x22, 0x33, 0x44, 0xaa] =
        .ok (.add64K .r1 0x11223344#32, [0xaa#8]) ∧
      decode .little true [0x18, 0x01, 0, 0, 1, 0, 0, 0, 0, 0, 0, 0, 2, 0, 0, 0, 0xaa] =
        .ok (.ldImm64 .r1 1#32 2#32, [0xaa#8]) := by
  and_intros <;> rfl

/-- Fields of a slot. -/
def fields (op : BitVec 8) (d s : BitVec 4) (off : Word16) (imm : Word32) : Fields :=
  { opcode := op, dst := d, src := s, offset := off, imm := imm }

/-- A clean encoding, a reserved one, one with a non-zero unused field, and two with both. -/
theorem test_witness_LenientDecoderIgnoresUnusedFieldsOnly :
    decodeFields true (fields 0x04 1 0 0 5) none = .ok (.add32K .r1 5#32) ∧
      (decodeFields true (fields 0x04 11 0 0 5) none = .error (.badRegister 11#4) ∧
        DecodeError.badRegister 11#4 ≠ .unusedField) ∧
      decodeFields false (fields 0x04 1 1 0 5) none = .ok (.add32K .r1 5#32) ∧
      (fields 0x04 1 1 0 5).cleared = fields 0x04 1 0 0 5 ∧
      decodeFields false (fields 0x04 11 1 0 5) none = .error (.badRegister 11#4) ∧
      decodeFields false (fields 0xd4 1 1 0 8) none = .error (.reservedImm 8#32) ∧
      (fields 0x18 1 0 1 5).clearedSecond (fields 1 2 3 4 6) = fields 0 0 0 0 6 := by
  and_intros <;> first | rfl | decide

theorem test_witness_ReservedOpcodes :
    (0x00#8).toNat ∈ reservedOpcodes ∧ (0xdf#8).toNat ∈ reservedOpcodes ∧ 0xe0 ≤ (0xe0#8).toNat ∧
      0xe0 ≤ (0xff#8).toNat ∧ ((0xde#8).toNat ∉ reservedOpcodes ∧ (0xde#8).toNat < 0xe0) ∧
      ((0x04#8).toNat ∉ reservedOpcodes ∧ (0x04#8).toNat < 0xe0) := by
  decide

theorem test_witness_OffsetSelectsOperation :
    ((fields 0x34 1 0 1 5).cls = 4 ∧ (fields 0x34 1 0 1 5).code = 0x3 ∧
        decodeFields true (fields 0x34 1 0 1 5) none = .ok (.sdiv32K .r1 5#32)) ∧
      ((fields 0x9f 1 2 0 0).cls = 7 ∧ (fields 0x9f 1 2 0 0).code = 0x9 ∧
        decodeFields true (fields 0x9f 1 2 0 0) none = .ok (.mod64X .r1 .r2)) ∧
      ((fields 0xbf 1 2 32 0).code = 0xb ∧
        decodeFields true (fields 0xbf 1 2 32 0) none = .ok (.movsx64From32 .r1 .r2)) ∧
      ((fields 0x07 1 0 0 5).cls = 7 ∧ (fields 0x07 1 0 0 5).code ≠ 0x3 ∧ (fields 0x07 1 0 0 5).code ≠ 0x9 ∧
        (fields 0x07 1 0 0 5).code ≠ 0xb ∧
            decodeFields true (fields 0x07 1 0 0 5) none = .ok (.add64K .r1 5#32)) := by
  and_intros <;> first | rfl | decide

theorem test_witness_SourceSelectsSubtype :
    ((fields 0x85 0 2 0 9).opcode = 0x85#8 ∧ decodeFields true (fields 0x85 0 2 0 9) none = .ok (.callBtf 9#32)) ∧
      ((fields 0x18 1 6 0 9).opcode = 0x18#8 ∧
        decodeFields true (fields 0x18 1 6 0 9) (some (fields 0 0 0 0 8)) = .ok (.ldMapValIdx .r1 9#32 8#32)) ∧
      (2#4).toNat < 3 ∧ (6#4).toNat < 7 := by
  and_intros <;> first | rfl | decide

/-- `ready` about to run a wide instruction. -/
def readyWide : State := withProg ready [0x0000000100000118#64, 0x0000000200000000#64]

/-- `ready` about to fetch a reserved opcode. -/
def readyReserved : State := withProg ready [0xff#64]

/-- `ready` about to fetch an instruction of a group it does not support. -/
def readyPacket : State := withProg ready [0x0000000e00000020#64]

theorem test_witness_StepRunsDecodedInstruction :
    (ready.status = .running ∧ validPc ready.prog ready.pc = true ∧ ready.prog[ready.pc.toNat]? = some 0x95#64 ∧
      decodeSlots ready.cfg.hostEndian ready.cfg.strictUnused 0x95#64 ready.prog[ready.pc.toNat + 1]? = .ok .exit ∧
      Instr.exit.wf ready.cfg.groups = true) ∧
    (validPc readyWide.prog readyWide.pc = true ∧ readyWide.prog[readyWide.pc.toNat]? = some 0x0000000100000118#64 ∧
      decodeSlots readyWide.cfg.hostEndian readyWide.cfg.strictUnused 0x0000000100000118#64
          readyWide.prog[readyWide.pc.toNat + 1]? =
        .ok (.ldImm64 .r1 1#32 2#32) ∧
      (Instr.ldImm64 .r1 1#32 2#32).wf readyWide.cfg.groups = true) := by
  and_intros <;> rfl

theorem test_witness_FetchFaults :
    (ready.status = .running ∧ validPc ready.prog 2 = false ∧ validPc ready.prog (-1) = false) ∧
    (validPc readyReserved.prog readyReserved.pc = true ∧ readyReserved.prog[readyReserved.pc.toNat]? = some 0xff#64 ∧
      decodeSlots readyReserved.cfg.hostEndian readyReserved.cfg.strictUnused 0xff#64
          readyReserved.prog[readyReserved.pc.toNat + 1]? =
        .error (.reservedOpcode 0xff#8)) ∧
    (validPc readyPacket.prog readyPacket.pc = true ∧
        readyPacket.prog[readyPacket.pc.toNat]? = some 0x0000000e00000020#64 ∧
      decodeSlots readyPacket.cfg.hostEndian readyPacket.cfg.strictUnused 0x0000000e00000020#64
          readyPacket.prog[readyPacket.pc.toNat + 1]? =
        .ok (.ldAbsW 14#32) ∧
      (Instr.ldAbsW 14#32).wf readyPacket.cfg.groups = false) := by
  and_intros <;> rfl

theorem test_witness_InstructionStarts :
    (let p : List Slot := [0x18#64, 0#64, 0x95#64, 0x95#64]
     p ≠ [] ∧ (validPc p 0 = true ∧ p[0]? = some 0x18#64 ∧ (0x18#64).extractLsb' 0 8 = 0x18#8 ∧ 0 + 2 < p.length) ∧
      (validPc p 2 = true ∧ p[2]? = some 0x95#64 ∧ (0x95#64).extractLsb' 0 8 ≠ 0x18#8 ∧ 2 + 1 < p.length) ∧
      ((-1 : Int) < 0 ∧ (p.length : Int) ≤ 4)) := by
  decide

theorem test_witness_StepAnswersFromRunningOnly :
    ready.status = .running ∧ ({ ready with status := .exited 1#64 } : State).status ≠ .running ∧
      ({ ready with status := .faulted (.badPc 2) } : State).status ≠ .running := by
  decide

theorem test_witness_FaultsArePrecise :
    ∃ t, step { ready with pc := 2 } = .next t ∧ t.status = .faulted (.badPc 2) := by
  obtain ⟨t, h, ht⟩ := exists_next_with (o := step { ready with pc := 2 })
    (p := fun t => t.status == .faulted (.badPc 2)) (by decide)
  exact ⟨t, h, by simpa using ht⟩

theorem test_witness_OnlyExitEndsARun : ∃ t, step ready = .next t ∧ t.status = .exited 0xfff0#64 := by
  obtain ⟨t, h, ht⟩ := exists_next_with (o := step ready) (p := fun t => t.status == .exited 0xfff0#64) (by decide)
  exact ⟨t, h, by simpa using ht⟩

theorem test_witness_OnlyCallsAndReturnsMoveTheCallStack :
    (∃ t, exec (.add64K .r1 1#32) called = .next t) ∧ (∃ t, exec (.callLocal 0#32) called = .next t) ∧
      ∃ t, exec .exit called = .next t :=
  ⟨exists_next (by decide), exists_next (by decide), exists_next (by decide)⟩

theorem test_witness_StepKeepsProgramAndConfiguration : ∃ t, step called = .next t := exists_next (by decide)

theorem test_witness_CallLocalResult :
    (∀ n, called.cfg.maxCallDepth = some n → called.callstack.length < n) ∧
      (let s : State := { called with cfg := { called.cfg with maxCallDepth := some 2 } }
       ∀ n, s.cfg.maxCallDepth = some n → s.callstack.length < n) ∧
      (let s : State := { called with cfg := { called.cfg with maxCallDepth := some 1 } }
       s.cfg.maxCallDepth = some 1 ∧ 1 ≤ s.callstack.length) := by
  refine ⟨?_, ?_, rfl, by decide⟩
  · intro n h
    cases h
    decide
  · intro s n h
    cases h
    decide

theorem test_witness_CallThenReturnRestores :
    ∃ t u : State, ready.status = .running ∧ exec (.callLocal 0#32) ready = .next t ∧ t.status = .running ∧
      u.callstack = t.callstack := by
  obtain ⟨t, h, ht⟩ := exists_next_with (o := exec (.callLocal 0#32) ready)
    (p := fun t => t.status == .running) (by decide)
  exact ⟨t, t, rfl, h, by simpa using ht, rfl⟩

theorem test_witness_ExitResult :
    (ready.callstack = [] ∧ Readable ready [.r0]) ∧
      (let s := small .little [0x95] 0#64 0#64
       s.callstack = [] ∧ s.cfg.unwrittenRaises = true ∧ s.x.r0.written = false) ∧
      called.callstack = [] ++ [frame0] :=
  ⟨⟨rfl, fun _ => by decide⟩, by decide, rfl⟩

theorem test_witness_HelperCallResult :
    (HelperKind.static, 7#32) ∈ ready.cfg.helpers ∧ (HelperKind.btf, 9#32) ∈ ready.cfg.helpers ∧
      (HelperKind.static, 9#32) ∉ ready.cfg.helpers ∧ (HelperKind.btf, 7#32) ∉ ready.cfg.helpers := by
  decide

/-- The hypotheses of an arithmetic statement: the destination is not `x[10]`, and both operands, or the same
register twice, can be read on a platform that raises. -/
theorem ready_operands :
    ready.cfg.unwrittenRaises = true ∧ Reg.r1 ≠ .r10 ∧ Readable ready [.r1] ∧ Readable ready [.r2] ∧
      Readable ready [.r1, .r2] ∧ Readable ready [.r1, .r1] ∧ Readable ready [.r1, .r10] :=
  ⟨rfl, by decide, fun _ => by decide, fun _ => by decide, fun _ => by decide, fun _ => by decide, fun _ => by decide⟩

theorem test_witness_Alu32Arithmetic : Reg.r1 ≠ .r10 ∧ Readable ready [.r1] ∧ Readable ready [.r1, .r2] :=
  ⟨by decide, ready_operands.2.2.1, ready_operands.2.2.2.2.1⟩

theorem test_witness_Alu32ShiftsAndMoves :
    Reg.r1 ≠ .r10 ∧ Readable ready [.r1] ∧ Readable ready [.r1, .r2] ∧ Readable ready [.r2] :=
  ⟨by decide, ready_operands.2.2.1, ready_operands.2.2.2.2.1, ready_operands.2.2.2.1⟩

/-- Registers 1 and 2 hold a dividend and a divisor. -/
def dividing (a b : Word) : State := { ready with x := { ready.x with r1 := .of a, r2 := .of b } }

/-- The three cases of a division each occur: a zero divisor, the overflow, and neither. -/
theorem test_witness_Alu32Division :
    (Reg.r1 ≠ .r10 ∧ Readable ready [.r1] ∧ Readable ready [.r1, .r2]) ∧
      (srcVal (dividing 7 0) .r2).setWidth 32 = 0#32 ∧
      overflows ((dstVal (dividing 0x80000000 0xffffffff) .r1).setWidth 32)
        ((srcVal (dividing 0x80000000 0xffffffff) .r2).setWidth 32) ∧
      ((srcVal (dividing 7 0xffffffff) .r2).setWidth 32 ≠ 0#32 ∧
        ¬ overflows ((dstVal (dividing 7 0xffffffff) .r1).setWidth 32)
          ((srcVal (dividing 7 0xffffffff) .r2).setWidth 32)) :=
  ⟨test_witness_Alu32Arithmetic, by decide, by unfold overflows; decide, by unfold overflows; decide⟩

theorem test_witness_Alu64Division :
    (Reg.r1 ≠ .r10 ∧ Readable ready [.r1] ∧ Readable ready [.r1, .r2]) ∧
      srcVal (dividing 7 0) .r2 = 0#64 ∧
      overflows (dstVal (dividing 0x8000000000000000 0xffffffffffffffff) .r1)
        (srcVal (dividing 0x8000000000000000 0xffffffffffffffff) .r2) ∧
      (srcVal (dividing 7 0xffffffffffffffff) .r2 ≠ 0#64 ∧
        ¬ overflows (dstVal (dividing 7 0xffffffffffffffff) .r1) (srcVal (dividing 7 0xffffffffffffffff) .r2)) :=
  ⟨test_witness_Alu32Arithmetic, by decide, by unfold overflows; decide, by unfold overflows; decide⟩

theorem test_witness_Alu64Arithmetic : Reg.r1 ≠ .r10 ∧ Readable ready [.r1] ∧ Readable ready [.r1, .r2] :=
  test_witness_Alu32Arithmetic

theorem test_witness_Alu64ShiftsAndMoves :
    Reg.r1 ≠ .r10 ∧ Readable ready [.r1] ∧ Readable ready [.r1, .r2] ∧ Readable ready [.r2] :=
  test_witness_Alu32ShiftsAndMoves

theorem test_witness_ShiftAmountsAlu32 : Reg.r1 ≠ .r10 ∧ Readable ready [.r1] ∧ Readable ready [.r1, .r2] :=
  test_witness_Alu32Arithmetic

theorem test_witness_ShiftAmountsAlu64 : Reg.r1 ≠ .r10 ∧ Readable ready [.r1] ∧ Readable ready [.r1, .r2] :=
  test_witness_Alu32Arithmetic

theorem test_witness_ByteSwapResult :
    Reg.r1 ≠ .r10 ∧ (Readable ready [.r1] ∧ ready.cfg.hostEndian = .little) ∧
      (Readable readyBig [.r1] ∧ readyBig.cfg.hostEndian = .big) :=
  ⟨by decide, ⟨fun _ => by decide, rfl⟩, fun _ => by decide, rfl⟩

theorem test_witness_ByteSwapDependsOnHost :
    Reg.r1 ≠ .r10 ∧ (Readable ready [.r1] ∧ ready.cfg.hostEndian = .little) ∧
      (Readable readyBig [.r1] ∧ readyBig.cfg.hostEndian = .big) :=
  test_witness_ByteSwapResult

theorem test_witness_ConditionalJump64 : Readable ready [.r1] ∧ Readable ready [.r1, .r2] :=
  ⟨ready_operands.2.2.1, ready_operands.2.2.2.2.1⟩

theorem test_witness_ConditionalJump32 : Readable ready [.r1] ∧ Readable ready [.r1, .r2] :=
  test_witness_ConditionalJump64

/-- An access of each width and kind at 0xfff8, the last eight bytes of the frame of depth 0, goes through. -/
theorem accessible_at_end (kind : AccessKind) (n : Nat) (h : n ∈ [1, 2, 4, 8]) :
    Accessible ready kind 0xfff8#64 n := by
  simp only [List.mem_cons, List.not_mem_nil, or_false] at h
  rcases h with rfl | rfl | rfl | rfl <;> cases kind <;> exact ⟨fun _ => by decide, by decide⟩

theorem test_witness_LoadResult :
    (Reg.r1 ≠ .r10 ∧ Readable ready [.r2]) ∧
      ∀ n ∈ [1, 2, 4, 8], Accessible ready .read (loadAddr ready .r2 8#16) n :=
  ⟨⟨by decide, ready_operands.2.2.2.1⟩, fun n h => accessible_at_end .read n h⟩

theorem test_witness_SignExtendingLoads :
    ((Reg.r1 ≠ .r10 ∧ Readable ready [.r2]) ∧
        ∀ n ∈ [1, 2, 4, 8], Accessible ready .read (loadAddr ready .r2 8#16) n) ∧
      ((fields 0x82 1 0 0 0).mode = 4 ∧ (fields 0x82 1 0 0 0).cls = 2) ∧
      ((fields 0x83 1 0 0 0).mode = 4 ∧ (fields 0x83 1 0 0 0).cls = 3) ∧
      ((fields 0x99 1 0 0 0).mode = 4 ∧ (fields 0x99 1 0 0 0).cls = 1 ∧ (fields 0x99 1 0 0 0).size = 3) :=
  ⟨test_witness_LoadResult, by decide, by decide, by decide⟩

theorem test_witness_StoreResult :
    Readable ready [.r1] ∧ Readable ready [.r1, .r2] ∧
      ∀ n ∈ [1, 2, 4, 8], Accessible ready .write (storeAddr ready .r1 8#16) n :=
  ⟨ready_operands.2.2.1, ready_operands.2.2.2.2.1, fun n h => accessible_at_end .write n h⟩

theorem test_witness_StoredBytes :
    8 ∈ [1, 2, 4, 8] ∧ (0xfffffffffffffff8#64).toNat + 8 ≤ 2 ^ 64 ∧ (0 < 8 ∧ 7 < 8) ∧
      ready.cfg.hostEndian = .little ∧ readyBig.cfg.hostEndian = .big ∧ ¬ inRange 0xfffffffffffffff8#64 8 0 := by
  refine ⟨by decide, by decide, by decide, rfl, rfl, ?_⟩
  unfold inRange
  decide

theorem test_witness_LoadedBytes :
    8 ∈ [1, 2, 4, 8] ∧ (0xfffffffffffffff8#64).toNat + 8 ≤ 2 ^ 64 ∧ (0 < 8 ∧ 7 < 8) ∧
      ready.cfg.hostEndian = .little ∧ readyBig.cfg.hostEndian = .big := by
  decide

theorem test_witness_AtomicResult :
    Readable ready [.r1, .r2] ∧ Accessible ready .atomic (storeAddr ready .r1 8#16) 4 ∧
      Accessible ready .atomic (storeAddr ready .r1 8#16) 8 :=
  ⟨ready_operands.2.2.2.2.1, accessible_at_end .atomic 4 (by decide), accessible_at_end .atomic 8 (by decide)⟩

theorem test_witness_AtomicFetchResult :
    Reg.r2 ≠ .r10 ∧ Readable ready [.r1, .r2] ∧ Accessible ready .atomic (storeAddr ready .r1 8#16) 4 ∧
      Accessible ready .atomic (storeAddr ready .r1 8#16) 8 :=
  ⟨by decide, test_witness_AtomicResult⟩

/-- `ready` with the value 0xfff0 stored at 0xfff8, which is what `x[0]` holds. -/
def matching : State := storeAt ready 0xfff8#64 8 0xfff0#64

/-- `ready` with another value stored there. -/
def mismatching : State := storeAt ready 0xfff8#64 8 0xfff1#64

theorem test_witness_CompareExchangeResult :
    (Readable matching [.r1, .r2, .r0] ∧ Accessible matching .atomic (storeAddr matching .r1 8#16) 4 ∧
        Accessible matching .atomic (storeAddr matching .r1 8#16) 8 ∧
        (valueAt matching (storeAddr matching .r1 8#16) 4).setWidth 32 = (r0Val matching).setWidth 32 ∧
        valueAt matching (storeAddr matching .r1 8#16) 8 = r0Val matching) ∧
      (Readable mismatching [.r1, .r2, .r0] ∧ Accessible mismatching .atomic (storeAddr mismatching .r1 8#16) 4 ∧
        Accessible mismatching .atomic (storeAddr mismatching .r1 8#16) 8 ∧
        (valueAt mismatching (storeAddr mismatching .r1 8#16) 4).setWidth 32 ≠ (r0Val mismatching).setWidth 32 ∧
        valueAt mismatching (storeAddr mismatching .r1 8#16) 8 ≠ r0Val mismatching) ∧
      (8 ∈ [4, 8] ∧ (0xfffffffffffffff8#64).toNat + 8 ≤ 2 ^ 64 ∧ privateRange ready 0xfffffffffffffff8#64 8) :=
  ⟨⟨fun _ => by decide, ⟨fun _ => by decide, by decide⟩, ⟨fun _ => by decide, by decide⟩, by decide, by decide⟩,
    ⟨fun _ => by decide, ⟨fun _ => by decide, by decide⟩, ⟨fun _ => by decide, by decide⟩, by decide, by decide⟩,
    by decide, by decide, fun _ _ => rfl⟩

theorem test_witness_Imm64Result :
    Reg.r1 ≠ .r10 ∧ lookup ready.cfg.mapsByFd 3#32 = some 0xa000#64 ∧
      lookup ready.cfg.mapVals 0xa000#64 = some 0x200000#64 ∧ lookup ready.cfg.vars 5#32 = some 0x300000#64 ∧
      (0 ≤ ready.pc + 1 + (-1#32).toInt ∧ ready.pc + 1 + (-1#32).toInt < ready.prog.length ∧
        lookup ready.cfg.codeAddrs (ready.pc + 1 + (-1#32).toInt).toNat = some 0x400000#64) ∧
      (0 ≤ ready.pc + 1 + (0#32).toInt ∧ ready.pc + 1 + (0#32).toInt < ready.prog.length ∧
        lookup ready.cfg.codeAddrs (ready.pc + 1 + (0#32).toInt).toNat = some 0x400008#64) ∧
      lookup ready.cfg.mapsByIdx 0#32 = some 0xa000#64 := by
  decide

theorem test_witness_UnknownObjects :
    Reg.r1 ≠ .r10 ∧ lookup ready.cfg.mapsByFd 4#32 = none ∧
      (lookup ({ ready.cfg with mapVals := [] } : Platform).mapsByFd 3#32 = some 0xa000#64 ∧
        lookup ({ ready.cfg with mapVals := [] } : Platform).mapVals 0xa000#64 = none) ∧
      lookup ready.cfg.vars 6#32 = none ∧ ready.pc + 1 + (-2#32).toInt < 0 ∧
      (ready.prog.length : Int) ≤ ready.pc + 1 + (1#32).toInt ∧
      (lookup ({ ready.cfg with codeAddrs := [] } : Platform).codeAddrs (ready.pc + 1 + (0#32).toInt).toNat = none) ∧
      lookup ready.cfg.mapsByIdx 2#32 = none ∧
      (lookup ready.cfg.mapsByIdx 1#32 = some 0xb000#64 ∧ lookup ready.cfg.mapVals 0xb000#64 = none) := by
  decide

theorem test_witness_FramePointerWriteRaises :
    target (.add64K .r10 1#32) = some .r10 ∧ target (.atomic64FetchAdd .r1 .r10 0#16) = some .r10 := by
  decide

/-- Only `x[2]` and `x[3]` are unwritten. -/
def patchy : State := { ready with x := { ready.x with r2 := .unwritten, r3 := .unwritten } }

theorem test_witness_UnwrittenReadRaises :
    patchy.cfg.unwrittenRaises = true ∧ target (.add64X .r3 .r2) ≠ some .r10 ∧ Reg.r2 ∈ sources (.add64X .r3 .r2) ∧
      (patchy.x.get .r2).written = false ∧
      ∀ q ∈ sources (.add64X .r3 .r2), (patchy.x.get q).written = false → (Reg.r2).num.toNat ≤ q.num.toNat := by
  decide

theorem test_witness_MisalignedAccessRaises :
    (reachesAccess ready (.ldxW .r1 .r2 1#16) ∧
        access ready (.ldxW .r1 .r2 1#16) = some (.read, 0xfff1#64, 4) ∧ ¬ aligned ready .read 0xfff1#64 4) ∧
      (reachesAccess ready (.stxDw .r1 .r2 4#16) ∧
        access ready (.stxDw .r1 .r2 4#16) = some (.write, 0xfff4#64, 8) ∧ ¬ aligned ready .write 0xfff4#64 8) ∧
      (let s : State := { ready with cfg := { ready.cfg with alignRequired := false } }
       reachesAccess s (.atomic64Add .r1 .r2 4#16) ∧
        access s (.atomic64Add .r1 .r2 4#16) = some (.atomic, 0xfff4#64, 8) ∧ ¬ aligned s .atomic 0xfff4#64 8) := by
  unfold reachesAccess Readable aligned
  decide

theorem test_witness_RefusedAccessRaises :
    (reachesAccess ready (.ldxW .r1 .r2 16#16) ∧
        access ready (.ldxW .r1 .r2 16#16) = some (.read, 0x10000#64, 4) ∧ aligned ready .read 0x10000#64 4 ∧
        memAdmit ready 0x10000#64 4 .read = false) ∧
      (let s : State := { ready with cfg := { ready.cfg with alignRequired := false } }
       reachesAccess s (.stxDw .r1 .r2 9#16) ∧
        access s (.stxDw .r1 .r2 9#16) = some (.write, 0xfff9#64, 8) ∧ aligned s .write 0xfff9#64 8 ∧
        memAdmit s 0xfff9#64 8 .write = false) ∧
      (reachesAccess ready (.atomic64Add .r1 .r2 16#16) ∧
        access ready (.atomic64Add .r1 .r2 16#16) = some (.atomic, 0x10000#64, 8) ∧
        aligned ready .atomic 0x10000#64 8 ∧ memAdmit ready 0x10000#64 8 .atomic = false) := by
  unfold reachesAccess Readable aligned
  decide

theorem test_witness_AdmissionMeansOneRegion :
    0 < 8 ∧ memAdmit ready 0xfff8#64 8 .read = true ∧ 0 < 3 ∧ memAdmit ready 0xfff8#64 3 .read = false := by
  decide

theorem test_witness_RegisterFrame :
    (∃ t, exec (.add64K .r1 1#32) called = .next t) ∧ callsOrReturns (.add64K .r1 1#32) = false ∧
      target (.add64K .r1 1#32) ≠ some .r2 ∧ (∃ t, exec (.callHelper 7#32) ready = .next t) ∧
      ((∀ imm, Instr.callHelper 7#32 ≠ .callLocal imm) ∧ Instr.callHelper 7#32 ≠ .exit) :=
  ⟨exists_next (by decide), by decide, by decide, ⟨_, rfl⟩, ⟨fun imm h => Instr.noConfusion h, by decide⟩⟩

theorem test_witness_MemoryFrame :
    (∃ t, exec (.stxDw .r1 .r2 8#16) ready = .next t) ∧ callsHelper (.stxDw .r1 .r2 8#16) = false ∧
      ∀ kind addr n, access ready (.stxDw .r1 .r2 8#16) = some (kind, addr, n) → kind ≠ .read →
        ¬ inRange addr n 0xfff7 := by
  refine ⟨exists_next (by decide), by decide, ?_⟩
  rintro kind addr n h - ⟨h1, -⟩
  cases h
  revert h1
  decide

theorem test_witness_OtherRegistersDoNotMatter :
    callsOrReturns (.atomic64FetchAdd .r1 .r2 8#16) = false ∧ Reg.r3 ∉ sources (.atomic64FetchAdd .r1 .r2 8#16) ∧
      (∃ t, exec (.add64X .r1 .r2) ready = .next t) ∧ Reg.r3 ∉ sources (.add64X .r1 .r2) ∧
      callsOrReturns (.add64X .r1 .r2) = false :=
  ⟨by decide, by decide, exists_next (by decide), by decide, by decide⟩

theorem test_witness_OnlyAdmittedBytesChange :
    ∃ t, exec (.stxB .r1 .r2 8#16) mismatching = .next t ∧ callsHelper (.stxB .r1 .r2 8#16) = false ∧
      byteAt t 0xfff8 ≠ byteAt mismatching 0xfff8 := by
  obtain ⟨t, h, ht⟩ := exists_next_with (o := exec (.stxB .r1 .r2 8#16) mismatching)
    (p := fun t => byteAt t 0xfff8 == 0xf0#8) (by decide)
  refine ⟨t, h, rfl, ?_⟩
  rw [eq_of_beq ht]
  decide

/-- `ready` about to run `STX_DW [r1 + 8], r2`. -/
def storing : State := withProg ready [0x000000000008217b#64]

/-- The same with another memory, which differs at 0x5000. -/
def storingElsewhere : State := { storing with mem := [(0x5000, 0x77#8)] }

/-- No region, of whatever depth, holds 0x5000. -/
theorem closed_at_5000 : ∀ r ∈ storing.cfg.regions, r.holds 0x5000 = false := by decide

theorem storing_calls_no_helper : ∀ i, fetch storing = .ok i → callsHelper i = false := by
  intro i h
  have : fetch storing = .ok (.stxDw .r1 .r2 8#16) := by rfl
  rw [this] at h
  cases h
  rfl

theorem memories_agree {a : Nat} (h : a ≠ 0x5000) : storingElsewhere.mem.get? a = storing.mem.get? a :=
  if_neg (Ne.symm h)

theorem test_witness_UnadmittedBytesDoNotMatter :
    (∀ i, fetch storing = .ok i → callsHelper i = false) ∧
      (∀ a, reachable storing .read a ∨ reachable storing .atomic a →
        storingElsewhere.mem.get? a = storing.mem.get? a) ∧
      (∃ t, step storing = .next t) ∧ storingElsewhere.mem.get? 0x5000 ≠ storing.mem.get? 0x5000 := by
  refine ⟨storing_calls_no_helper, fun a h => memories_agree ?_, exists_next (by decide), by decide⟩
  rintro rfl
  rcases h with ⟨r, hr, -, -, h⟩ | ⟨r, hr, -, -, h⟩ <;> simp [closed_at_5000 r hr] at h

theorem test_witness_StepsKeepAgreementOnOpenBytes :
    agreeOnOpenBytes storing storingElsewhere ∧ (∀ i, fetch storing = .ok i → callsHelper i = false) ∧
      (∃ t, step storing = .next t) ∧ storing ≠ storingElsewhere := by
  refine ⟨⟨rfl, fun a h => memories_agree ?_⟩, storing_calls_no_helper, exists_next (by decide), by decide⟩
  rintro rfl
  obtain ⟨r, hr, -, h⟩ := h
  simp [closed_at_5000 r hr] at h

theorem test_witness_StoreThenLoad :
    (ready.status = .running ∧ (ready.x.get .r1).written = true ∧ Reg.r3 ≠ .r10) ∧
      ((∃ t, exec (.stxB .r1 .r2 8#16) ready = .next t ∧ (t.status == .running) = true) ∧
        (∃ t, exec (.stxH .r1 .r2 8#16) ready = .next t ∧ (t.status == .running) = true) ∧
        (∃ t, exec (.stxW .r1 .r2 8#16) ready = .next t ∧ (t.status == .running) = true) ∧
        ∃ t, exec (.stxDw .r1 .r2 8#16) ready = .next t ∧ (t.status == .running) = true) ∧
      ∀ n ∈ [1, 2, 4, 8], memAdmit ready (storeAddr ready .r1 8#16) n .read = true ∧
        privateRange ready (storeAddr ready .r1 8#16) n :=
  ⟨by decide,
    ⟨exists_next_with (by decide), exists_next_with (by decide), exists_next_with (by decide),
      exists_next_with (by decide)⟩,
    fun n h => ⟨(accessible_at_end .read n h).2, fun _ _ => rfl⟩⟩

theorem test_witness_MixedWidthAccess :
    (0xfffffffffffffff8#64).toNat + 8 ≤ 2 ^ 64 ∧ privateRange ready 0xfffffffffffffff8#64 8 ∧
      ready.cfg.hostEndian = .little ∧ privateRange readyBig 0xfffffffffffffff8#64 8 ∧
      readyBig.cfg.hostEndian = .big :=
  ⟨by decide, fun _ _ => rfl, rfl, fun _ _ => rfl, rfl⟩

end Sys2Proof.Tests
end

/-! PROOFS. What entry leaves, which slots start an instruction, and what fetch and one step can answer
(10_state.md R27, R28, R35; 60_exceptions.md R355). -/

namespace Sys2Proof.Machine

/-! ### Entry -/

/-- Settles O1: each clause reads one field of the entry state. -/
theorem resetState : Obligations.ResetState := by
  refine ⟨⟨rfl, rfl, rfl, rfl, rfl, rfl, ?_⟩, rfl, ?_⟩
  · intro r h1 h10
    cases r with
    | r1 => exact absurd rfl h1
    | r10 => exact absurd rfl h10
    | _ => rfl
  · intro p prog
    refine ⟨rfl, rfl, rfl, rfl, rfl, rfl, rfl, rfl, ?_, ?_⟩
    · simp [RegFile.get, Cell.unwritten]
    · simp +contextual [RegFile.get, Cell.of, Cell.unwritten]

theorem enter_inv (p : Platform) (prog : List Slot) : (State.enter p prog).Inv where
  memory := rfl
  framePointer := rfl
  savedPointers := by simp
  depth := by simp
  returns := by simp

/-- Settles O2: no frame is saved and no byte is stored at entry, and reset is an entry. -/
theorem resetKeepsInvariant : Obligations.ResetKeepsInvariant :=
  ⟨enter_inv _ _, enter_inv⟩

/-! ### Instruction starts -/

/-- The linear scan can begin again at any instruction start. -/
theorem startsAt_add {second : Bool} {prog : List Slot} {n : Nat} (h : startsAt second prog n = true) (k : Nat) :
    startsAt second prog (n + k) = startsAt false (prog.drop n) k := by
  induction prog generalizing second n with
  | nil => cases h
  | cons w rest ih =>
    cases n with
    | zero =>
      have hs : second = false := by simpa [startsAt] using h
      rw [hs, Nat.zero_add, List.drop_zero]
    | succ n =>
      rw [Nat.add_right_comm]
      exact ih h

/-- No slot outside the program starts an instruction. -/
theorem startsAt_of_length_le {prog : List Slot} {n : Nat} (second : Bool) (h : prog.length ≤ n) :
    startsAt second prog n = false := by
  induction prog generalizing second n with
  | nil => rfl
  | cons w rest ih =>
    cases n with
    | zero => simp at h
    | succ n => exact ih _ (by simpa using h)

theorem startsAt_zero (second : Bool) (prog : List Slot) :
    startsAt second prog 0 = (!second && decide (prog ≠ [])) := by
  cases prog <;> simp [startsAt]

/-- One slot on from a start stands a start, unless the slot is wide or the last. -/
theorem startsAt_next {prog : List Slot} {n : Nat} {w : Slot} (h : startsAt false prog n = true)
    (hw : prog[n]? = some w) :
    startsAt false prog (n + 1) = (!isWide w && decide (n + 1 < prog.length)) := by
  obtain ⟨hn, rfl⟩ := List.getElem?_eq_some_iff.1 hw
  rw [startsAt_add h 1, List.drop_eq_getElem_cons hn]
  simp [startsAt, startsAt_zero]

/-- Two slots on from a wide start stands a start, unless the program ends there. -/
theorem startsAt_afterWide {prog : List Slot} {n : Nat} {w : Slot} (h : startsAt false prog n = true)
    (hw : prog[n]? = some w) (wide : isWide w = true) (hl : n + 2 < prog.length) :
    startsAt false prog (n + 2) = true := by
  obtain ⟨hn, rfl⟩ := List.getElem?_eq_some_iff.1 hw
  have hn1 : n + 1 < prog.length := by omega
  rw [startsAt_add h 2, List.drop_eq_getElem_cons hn, List.drop_eq_getElem_cons hn1]
  simp [startsAt, startsAt_zero, wide, hl]

theorem validPc_iff {prog : List Slot} {pc : Int} :
    validPc prog pc = true ↔ ∃ n : Nat, pc = n ∧ startsAt false prog n = true := by
  simp only [validPc, Bool.and_eq_true, decide_eq_true_eq]
  constructor
  · rintro ⟨h0, h⟩
    exact ⟨pc.toNat, by omega, h⟩
  · rintro ⟨n, rfl, h⟩
    exact ⟨by omega, h⟩

@[simp] theorem validPc_natCast (prog : List Slot) (n : Nat) : validPc prog n = startsAt false prog n := by
  simp [validPc]

/-- Settles O14, from what the scan answers at a start, one slot on and two slots on. -/
theorem instructionStarts : Obligations.InstructionStarts := by
  intro prog
  refine ⟨fun h => ?_, fun n w hn hw hop => ?_, fun n w hn hw hop hl => ?_, fun pc hpc => ?_⟩
  · simpa [startsAt_zero, h] using validPc_natCast prog 0
  · rw [validPc_natCast] at hn
    have wide : isWide w = true := beq_iff_eq.2 hop
    have hnext := startsAt_next hn hw
    rw [← validPc_natCast] at hnext
    refine ⟨by simpa [wide] using hnext, fun hl => ?_⟩
    simpa using (validPc_natCast prog (n + 2)).trans (startsAt_afterWide hn hw wide hl)
  · rw [validPc_natCast] at hn
    have narrow : isWide w = false := beq_false_of_ne hop
    have hnext := startsAt_next hn hw
    rw [← validPc_natCast] at hnext
    simpa [narrow, hl] using hnext
  · rw [Bool.eq_false_iff, Ne, validPc_iff]
    rintro ⟨n, rfl, hn⟩
    rw [startsAt_of_length_le false (by omega)] at hn
    cases hn

/-! ### Fetch -/

theorem fetch_badPc {s : State} (h : validPc s.prog s.pc = false) : fetch s = .error (.badPc s.pc) := by
  simp [fetch, h]

theorem fetch_undecodable {s : State} {w : Slot} {err : DecodeError} (hv : validPc s.prog s.pc = true)
    (hw : s.prog[s.pc.toNat]? = some w)
    (hd : decodeSlots s.cfg.hostEndian s.cfg.strictUnused w s.prog[s.pc.toNat + 1]? = .error err) :
    fetch s = .error (.illegalInstruction s.pc) := by
  simp [fetch, hv, hw, hd]

theorem fetch_decoded {s : State} {w : Slot} {i : Instr} (hv : validPc s.prog s.pc = true)
    (hw : s.prog[s.pc.toNat]? = some w)
    (hd : decodeSlots s.cfg.hostEndian s.cfg.strictUnused w s.prog[s.pc.toNat + 1]? = .ok i) :
    fetch s = if i.wf s.cfg.groups then .ok i else .error (.illegalInstruction s.pc) := by
  simp [fetch, hv, hw, hd]

/-- What a successful fetch says of the program: a slot at a valid pc decodes to a supported instruction. -/
theorem fetch_ok {s : State} {i : Instr} (h : fetch s = .ok i) :
    validPc s.prog s.pc = true ∧ i.wf s.cfg.groups = true ∧
      ∃ w, s.prog[s.pc.toNat]? = some w ∧
        decodeSlots s.cfg.hostEndian s.cfg.strictUnused w s.prog[s.pc.toNat + 1]? = .ok i := by
  unfold fetch at h
  split at h
  · split at h
    · cases h
    · split at h
      · cases h
      · split at h
        · cases h
          exact ⟨‹_›, ‹_›, _, ‹_›, ‹_›⟩
        · cases h
  · cases h

/-! ### One step -/

theorem step_of_fetch_error {s : State} {f : RunFault} (hs : s.status = .running) (h : fetch s = .error f) :
    step s = .next (bump (raise s f)) := by
  simp [step, hs, h, bumpOutcome]

/-- Everything a step that answers a next state did: it took a fault of fetch, or it executed what it fetched. -/
theorem step_next_cases {s t : State} (h : step s = .next t) :
    (∃ f, fetch s = .error f ∧ t = bump (raise s f)) ∨
      ∃ i u, fetch s = .ok i ∧ exec i s = .next u ∧ t = bump u := by
  unfold step at h
  split at h
  · split at h
    · rename_i f hf
      cases h
      exact .inl ⟨f, hf, rfl⟩
    · rename_i i hi
      obtain ⟨u, hu, -⟩ := exec_does i s
      rw [hu] at h
      cases h
      exact .inr ⟨i, u, hi, hu, rfl⟩
  · cases h
  · cases h

/-- Settles O13: each of the three faults is an equation of `fetch`. -/
theorem fetchFaults : Obligations.FetchFaults := by
  intro s hs
  refine ⟨fun hv => ?_, fun w err hv hw hd => ?_, fun w i hv hw hd hi => ?_⟩
  · exact step_of_fetch_error hs (fetch_badPc hv)
  · exact step_of_fetch_error hs (fetch_undecodable hv hw hd)
  · exact step_of_fetch_error hs (by simp [fetch_decoded hv hw hd, hi])

end Sys2Proof.Machine

/-! PROOFS. Frames and the invariant, from the list of everything an instruction can do (`Does`; 10_state.md R23, R25,
R28, R29). -/

namespace Sys2Proof.Machine

theorem does_of_exec {s t : State} {i : Instr} (h : exec i s = .next t) : Does s i t := by
  obtain ⟨u, hu, hdoes⟩ := exec_does i s
  rw [hu] at h
  cases h
  exact hdoes

theorem callsOrReturns_of_callsHelper {i : Instr} (h : callsHelper i = true) : callsOrReturns i = true := by
  cases i with
  | callHelper | callBtf => rfl
  | _ => cases h

/-- A helper leaves `x[10]` as it is (43_jump.md R255). -/
theorem afterHelper_r10 (s : State) (result : Word) (writes : List (Word × Byte)) :
    (afterHelper s result writes).x.r10 = s.x.r10 := rfl

/-! ### The call stack -/

/-- Settles O18, by cases on what an instruction can do. -/
theorem onlyCallsAndReturnsMoveTheCallStack : Obligations.OnlyCallsAndReturnsMoveTheCallStack := by
  intro s t i h
  cases does_of_exec h with
  | calls imm hi => exact .inr (.inl ⟨⟨imm, hi⟩, _, rfl⟩)
  | returns f hi hf =>
    refine .inr (.inr ⟨hi, ?_, rfl⟩)
    rintro hnil
    simp [hnil] at hf
  | _ => exact .inl rfl

/-! ### Registers -/

/-- What an instruction other than a call or EXIT leaves alone. -/
theorem Does.frame {s t : State} {i : Instr} (h : Does s i t) (hi : callsOrReturns i = false) :
    (∀ r, target i ≠ some r → t.x.get r = s.x.get r) ∧ t.callstack = s.callstack ∧ t.prog = s.prog ∧
      t.cfg = s.cfg := by
  cases h with
  | raises | jumps | stores => exact ⟨fun _ _ => rfl, rfl, rfl, rfl⟩
  | writes d _ _ ht | swaps _ _ _ d _ _ _ ht =>
    refine ⟨fun r hr => RegFile.get_set_of_ne _ _ ?_, rfl, rfl, rfl⟩
    rintro rfl
    exact hr ht
  | helped _ _ hc | waits hc => rw [callsOrReturns_of_callsHelper hc] at hi; cases hi
  | calls _ h | returns _ h | exits h => subst h; cases hi

/-- Only a program-local call and a return change `x[10]`. -/
theorem Does.r10 {s t : State} {i : Instr} (h : Does s i t) (hcall : ∀ imm, i ≠ .callLocal imm)
    (hexit : i ≠ .exit) : t.x.r10 = s.x.r10 := by
  cases h with
  | raises | jumps | stores | waits => rfl
  | helped => exact afterHelper_r10 _ _ _
  | writes _ _ _ _ hd | swaps _ _ _ _ _ _ _ _ hd => exact RegFile.r10_set _ hd
  | calls imm h => exact absurd h (hcall imm)
  | returns _ h | exits h => exact absurd h hexit

/-- Settles O53, from what an instruction can do. -/
theorem registerFrame : Obligations.RegisterFrame := fun _ _ _ h =>
  ⟨(does_of_exec h).frame, fun ⟨hcall, hexit⟩ => (does_of_exec h).r10 hcall hexit⟩

/-! ### The invariant -/

/-- The invariant speaks of the memory's form, `x[10]`, the call stack, the program and the configuration only. -/
theorem State.Inv.of_same {s t : State} (h : s.Inv) (hmem : t.mem.wf = true) (hx : t.x.r10 = s.x.r10)
    (hstack : t.callstack = s.callstack) (hprog : t.prog = s.prog) (hcfg : t.cfg = s.cfg) : t.Inv where
  memory := hmem
  framePointer := by rw [hx, hstack, hcfg]; exact h.framePointer
  savedPointers := by rw [hstack, hcfg]; exact h.savedPointers
  depth := by rw [hstack, hcfg]; exact h.depth
  returns := by rw [hstack, hprog]; exact h.returns

theorem depthReached_eq_false {s : State} :
    depthReached s = false ↔ ∀ n, s.cfg.maxCallDepth = some n → s.callstack.length < n := by
  unfold depthReached
  split <;> simp_all

/-- A program-local call keeps the invariant where the slot after it is one a return may go to. -/
theorem State.Inv.enterCallee {s : State} (h : s.Inv) (disp : Int) (hdepth : depthReached s = false)
    (hret : returnSlot s.prog (s.pc + 1)) : (enterCallee s disp).Inv where
  memory := h.memory
  framePointer := by simp [calleeRegs, Cell.of]
  savedPointers := by
    intro k f hf
    rw [enterCallee_callstack] at hf
    rcases Nat.lt_or_ge k s.callstack.length with hk | hk
    · rw [List.getElem?_append_left hk] at hf
      exact h.savedPointers k f hf
    · rw [List.getElem?_append_right hk, List.getElem?_singleton] at hf
      split at hf
      · cases hf
        have hk : k = s.callstack.length := by omega
        subst hk
        exact h.framePointer
      · cases hf
  depth := by
    intro n hn
    simpa using depthReached_eq_false.1 hdepth n hn
  returns := by
    intro f hf
    rcases List.mem_append.1 hf with hf | hf
    · exact h.returns f hf
    · rw [List.mem_singleton.1 hf]
      exact hret

/-- A return keeps the invariant: the frame popped holds the frame address of the depth returned to. -/
theorem State.Inv.returnTo {s : State} (h : s.Inv) {f : Frame} (hf : s.callstack.getLast? = some f) :
    (returnTo s f).Inv where
  memory := h.memory
  framePointer := by
    rw [List.getLast?_eq_getElem?] at hf
    simpa [callerRegs] using h.savedPointers _ f hf
  savedPointers := by
    intro k g hg
    rw [returnTo_callstack, List.getElem?_dropLast] at hg
    split at hg
    · exact h.savedPointers k g hg
    · cases hg
  depth := by
    intro n hn
    have := h.depth n hn
    simp
    omega
  returns := fun g hg => h.returns g (List.dropLast_subset _ hg)

theorem Does.inv {s t : State} {i : Instr} (hdoes : Does s i t) (h : s.Inv)
    (hret : ∀ imm, i = .callLocal imm → returnSlot s.prog (s.pc + 1)) : t.Inv := by
  cases hdoes with
  | raises | jumps | exits => exact h.of_same h.memory rfl rfl rfl rfl
  | writes _ _ _ _ hd => exact h.of_same h.memory (RegFile.r10_set _ hd) rfl rfl rfl
  | stores => exact h.of_same (Memory.wf_putBytes _ _ h.memory) rfl rfl rfl rfl
  | swaps _ _ _ _ _ _ _ _ hd =>
    exact h.of_same (Memory.wf_putBytes _ _ h.memory) (RegFile.r10_set _ hd) rfl rfl rfl
  | helped => exact h.of_same (Memory.wf_putAll _ h.memory) (afterHelper_r10 _ _ _) rfl rfl rfl
  | waits => exact h
  | calls imm hi hdepth => exact h.enterCallee _ hdepth (hret imm hi)
  | returns f _ hf => exact h.returnTo hf

/-! ### The slot after a program-local call -/

/-- A slot that begins a wide instruction decodes as one (30_encoding.md R67). -/
theorem decodeSlots_wide {e : Endian} {strict : Bool} {w : Slot} {second : Option Slot} (h : isWide w = true) :
    decodeSlots e strict w second =
      decodeWide strict (Fields.ofSlot e w) (second.map (Fields.ofSlot e)) := by
  have hop : (Fields.ofSlot e w).opcode = 0x18#8 := by
    rw [Fields.ofSlot_opcode]
    exact beq_iff_eq.1 h
  have hcls : (Fields.ofSlot e w).cls = 0 := by rw [Fields.cls, hop]; rfl
  have hmode : (Fields.ofSlot e w).mode = 0 := by rw [Fields.mode, hop]; rfl
  have hsize : (Fields.ofSlot e w).size = 3 := by rw [Fields.size, hop]; rfl
  simp [decodeSlots, decodeFields, hcls, decodeLd, hmode, hsize]

theorem ok_of_needUnused {strict zero : Bool} {k : Decoded} {i : Instr} (h : needUnused strict zero k = .ok i) :
    k = .ok i := by
  unfold needUnused at h
  split at h
  · exact h
  · cases h

/-- Every wide instruction has a register that receives its result. -/
theorem target_of_decodeWide {strict : Bool} {f : Fields} {second : Option Fields} {i : Instr}
    (h : decodeWide strict f second = .ok i) : ∃ d, target i = some d := by
  unfold decodeWide at h
  split at h
  · cases h
  · replace h := ok_of_needUnused h
    unfold withDst at h
    split at h
    · rename_i d _
      refine ⟨d, ?_⟩
      split at h
      · cases h; rfl
      · cases ok_of_needUnused h; rfl
      · cases h; rfl
      · cases ok_of_needUnused h; rfl
      · cases ok_of_needUnused h; rfl
      · cases ok_of_needUnused h; rfl
      · cases h; rfl
      · cases h
    · cases h

/-- After a start that is not wide stands another start, or the program ends. -/
theorem returnSlot_next {prog : List Slot} {pc : Int} {w : Slot} (hv : validPc prog pc = true)
    (hw : prog[pc.toNat]? = some w) (narrow : isWide w = false) : returnSlot prog (pc + 1) := by
  obtain ⟨n, rfl, hn⟩ := validPc_iff.1 hv
  rw [Int.toNat_natCast] at hw
  have hl : n < prog.length := (List.getElem?_eq_some_iff.1 hw).1
  by_cases hlast : n + 1 < prog.length
  · have hnext := startsAt_next hn hw
    exact .inl (validPc_iff.2 ⟨n + 1, by omega, by simpa [narrow, hlast] using hnext⟩)
  · exact .inr (by omega)

theorem returnSlot_of_fetch_callLocal {s : State} {imm : Word32} (h : fetch s = .ok (.callLocal imm)) :
    returnSlot s.prog (s.pc + 1) := by
  obtain ⟨hv, -, w, hw, hd⟩ := fetch_ok h
  refine returnSlot_next hv hw (Bool.eq_false_iff.2 fun wide => ?_)
  rw [decodeSlots_wide wide] at hd
  obtain ⟨d, ht⟩ := target_of_decodeWide hd
  cases ht

theorem State.Inv.bump {s : State} (h : s.Inv) : (bump s).Inv := h.of_same h.memory rfl rfl rfl rfl

/-- Settles O3: a fault of fetch leaves what the invariant speaks of, and an executed instruction keeps it by what it
can do. -/
theorem stepKeepsInvariant : Obligations.StepKeepsInvariant := by
  intro s t h hstep
  rcases step_next_cases hstep with ⟨f, -, rfl⟩ | ⟨i, u, hi, hu, rfl⟩
  · exact (h.of_same h.memory rfl rfl rfl rfl : (raise s f).Inv).bump
  · refine ((does_of_exec hu).inv h fun imm he => ?_).bump
    subst he
    exact returnSlot_of_fetch_callLocal hi

end Sys2Proof.Machine

/-! PROOFS. The order of an instruction's checks, and that it reads no register but its operands (10_state.md R23 to
R25; 60_exceptions.md R342). Every instruction but the calls and EXIT is its two guards around a body
(`exec_follows`); what the guards do and what the body may read is then proved once for all of them. -/

namespace Sys2Proof.Machine

/-! ### Guards around a body -/

/-- The checks of an instruction ahead of its body: the write of `x[10]`, then the reads of its operands
(60_exceptions.md R342). -/
def guarded (i : Instr) (s : State) (k : Effect) : Effect :=
  match target i with
  | some d => guardWrite s d (guardRead s (sources i) k)
  | none => guardRead s (sources i) k

theorem guarded_framePointer {i : Instr} (h : target i = some .r10) (s : State) (k : Effect) :
    guarded i s k = .error (.framePointerWrite s.pc) := by
  simp [guarded, h, guardWrite]

theorem guarded_of_ne {i : Instr} (h : target i ≠ some .r10) (s : State) (k : Effect) :
    guarded i s k = guardRead s (sources i) k := by
  unfold guarded
  split
  · rename_i d hd
    exact guardWrite_of_ne (fun e => h (e ▸ hd)) _
  · rfl

theorem guardRead_of_fault {s : State} {rs : List Reg} {f : RunFault} (h : readFault s rs = some f) (k : Effect) :
    guardRead s rs k = .error f := by
  simp [guardRead, h]

/-! ### The lowest-numbered register -/

/-- The place of a register in the list of all registers is its number. -/
theorem allRegs_getElem?_eq_some {j : Nat} {r : Reg} : allRegs[j]? = some r ↔ j = r.num.toNat := by
  constructor
  · intro h
    have hj : j < 11 := (List.getElem?_eq_some_iff.1 h).1
    interval_cases j <;> cases h <;> rfl
  · rintro rfl
    cases r <;> rfl

/-- The first register with a property is the lowest-numbered one. -/
theorem find?_allRegs {p : Reg → Bool} {r : Reg} (hr : p r = true)
    (hmin : ∀ q, p q = true → r.num.toNat ≤ q.num.toNat) : allRegs.find? p = some r := by
  obtain ⟨hlt, hget⟩ := List.getElem?_eq_some_iff.1 (allRegs_getElem?_eq_some.2 (rfl : _ = r.num.toNat))
  refine List.find?_eq_some_iff_getElem.2 ⟨hr, r.num.toNat, hlt, hget, fun j hj => ?_⟩
  have hnum : j = (allRegs[j]'(by omega)).num.toNat :=
    allRegs_getElem?_eq_some.1 (List.getElem?_eq_some_iff.2 ⟨by omega, rfl⟩)
  rw [Bool.not_eq_true', Bool.eq_false_iff]
  intro hp
  have := hmin _ hp
  omega

theorem readFault_lowest {s : State} {rs : List Reg} {r : Reg} (hraise : s.cfg.unwrittenRaises = true)
    (hr : r ∈ rs) (hw : (s.x.get r).written = false)
    (hmin : ∀ q ∈ rs, (s.x.get q).written = false → r.num.toNat ≤ q.num.toNat) :
    readFault s rs = some (.unwrittenRegister s.pc r) := by
  have hfind : (allRegs.find? fun q => rs.contains q && !(s.x.get q).written) = some r :=
    find?_allRegs (by simp [hr, hw]) fun q hq => by
      simp only [Bool.and_eq_true, List.contains_iff_mem, Bool.not_eq_true'] at hq
      exact hmin q hq.1 hq.2
  rw [readFault, if_pos hraise, hfind, Option.map_some]

/-! ### A state with one register cell replaced -/

theorem RegFile.set_set (x : RegFile) (r : Reg) (c c' : Cell) : (x.set r c).set r c' = x.set r c' := by
  cases r <;> rfl

theorem RegFile.set_get (x : RegFile) (r : Reg) : x.set r (x.get r) = x := by
  cases r <;> rfl

theorem RegFile.set_comm (x : RegFile) {r q : Reg} (c c' : Cell) (h : q ≠ r) :
    (x.set r c).set q c' = (x.set q c').set r c := by
  refine RegFile.ext_get fun p => ?_
  by_cases hq : p = q
  · subst hq
    rw [RegFile.get_set_self, RegFile.get_set_of_ne _ _ h, RegFile.get_set_self]
  · by_cases hr : p = r
    · subst hr
      rw [RegFile.get_set_of_ne _ _ hq, RegFile.get_set_self, RegFile.get_set_self]
    · simp only [RegFile.get_set_of_ne _ _ hq, RegFile.get_set_of_ne _ _ hr]

/-- The state with one register cell replaced. -/
def State.withCell (s : State) (r : Reg) (c : Cell) : State := { s with x := s.x.set r c }

section WithCell

variable (s : State) {r : Reg} (c : Cell)

@[simp] theorem withCell_x : (s.withCell r c).x = s.x.set r c := rfl
@[simp] theorem withCell_pc : (s.withCell r c).pc = s.pc := rfl
@[simp] theorem withCell_cfg : (s.withCell r c).cfg = s.cfg := rfl
@[simp] theorem withCell_tick : (s.withCell r c).tick = s.tick := rfl

theorem withCell_get : s.withCell r (s.x.get r) = s := by
  rw [State.withCell, RegFile.set_get]

theorem readFault_withCell {rs : List Reg} (h : r ∉ rs) : readFault (s.withCell r c) rs = readFault s rs := by
  have hp : (fun q => rs.contains q && !((s.withCell r c).x.get q).written) =
      fun q => rs.contains q && !(s.x.get q).written := by
    funext q
    by_cases hq : q ∈ rs
    · rw [withCell_x, RegFile.get_set_of_ne _ _ (ne_of_mem_of_not_mem hq h)]
    · simp [hq]
  simp only [readFault, hp, withCell_cfg, withCell_pc]

theorem operand_withCell (pos : Nat) {q : Reg} (h : r ≠ q) : operand (s.withCell r c) pos q = operand s pos q := by
  simp [operand, RegFile.get_set_of_ne _ _ h.symm]

@[simp] theorem dstVal_withCell {q : Reg} (h : r ≠ q) : dstVal (s.withCell r c) q = dstVal s q :=
  operand_withCell s c 0 h

@[simp] theorem srcVal_withCell {q : Reg} (h : r ≠ q) : srcVal (s.withCell r c) q = srcVal s q :=
  operand_withCell s c 1 h

theorem r0Val_withCell (h : r ≠ .r0) : r0Val (s.withCell r c) = r0Val s := operand_withCell s c 2 h

theorem storeAddr_withCell {q : Reg} (off : Word16) (h : r ≠ q) :
    storeAddr (s.withCell r c) q off = storeAddr s q off := by
  rw [storeAddr, dstVal_withCell s c h, storeAddr]

theorem loadAddr_withCell {q : Reg} (off : Word16) (h : r ≠ q) :
    loadAddr (s.withCell r c) q off = loadAddr s q off := by
  rw [loadAddr, srcVal_withCell s c h, loadAddr]

theorem bytesAt_withCell (addr : Word) (n : Nat) : bytesAt (s.withCell r c) addr n = bytesAt s addr n := by
  induction n generalizing addr with
  | zero => rfl
  | succ n ih => rw [bytesAt, ih, bytesAt]; rfl

theorem valueAt_withCell (addr : Word) (n : Nat) : valueAt (s.withCell r c) addr n = valueAt s addr n := by
  rw [valueAt, bytesAt_withCell, valueAt, withCell_cfg]

theorem memRead_withCell (addr : Word) (n : Nat) : memRead (s.withCell r c) addr n = memRead s addr n := by
  rw [memRead, valueAt_withCell]
  rfl

theorem memWrite_withCell (addr : Word) (n : Nat) (v : Word) :
    memWrite (s.withCell r c) addr n v = (memWrite s addr n v).map (·.withCell r c) := by
  have halign : plainMisaligned (s.withCell r c) addr n = plainMisaligned s addr n := rfl
  have hadmit : memAdmit (s.withCell r c) addr n .write = memAdmit s addr n .write := rfl
  rw [memWrite, memWrite, halign, hadmit]
  split
  · rfl
  · split <;> rfl

theorem atomicRmw_withCell (addr : Word) (n : Nat) (f : Word → Word) :
    atomicRmw (s.withCell r c) addr n f = (atomicRmw s addr n f).map fun p => (p.1, p.2.withCell r c) := by
  have hadmit : memAdmit (s.withCell r c) addr n .atomic = memAdmit s addr n .atomic := rfl
  rw [atomicRmw, atomicRmw, valueAt_withCell, hadmit]
  split
  · rfl
  · split <;> rfl

end WithCell

/-! ### Effects that differ in one register -/

/-- Two effects that differ at most in the cell `c` standing in `r`, which the second keeps unless the instruction's
result went to `r`. -/
inductive SameBut (i : Instr) (r : Reg) (c : Cell) : Effect → Effect → Prop where
  | faults (f : RunFault) : SameBut i r c (.error f) (.error f)
  | kept (t : State) : SameBut i r c (.ok t) (.ok (t.withCell r c))
  | overwritten (t : State) (ht : target i = some r) : SameBut i r c (.ok t) (.ok t)

theorem sameBut_writeReg {i : Instr} {d : Reg} (ht : target i = some d) (s : State) (r : Reg) (c : Cell) (v : Word)
    (n : Int) :
    SameBut i r c (.ok (advance (writeReg s d v) n)) (.ok (advance (writeReg (s.withCell r c) d v) n)) := by
  by_cases h : d = r
  · subst h
    have hsame : writeReg (s.withCell d c) d v = writeReg s d v := by
      simp [writeReg, State.withCell, RegFile.set_set]
    rw [hsame]
    exact .overwritten _ ht
  · have hcomm : writeReg (s.withCell r c) d v = (writeReg s d v).withCell r c := by
      simp [writeReg, State.withCell, RegFile.set_comm _ _ _ h]
    rw [hcomm]
    exact .kept _

theorem sameBut_guarded {i : Instr} {r : Reg} {c : Cell} {s : State} {k k' : Effect} (h : SameBut i r c k k')
    (hr : r ∉ sources i) : SameBut i r c (guarded i s k) (guarded i (s.withCell r c) k') := by
  by_cases ht : target i = some .r10
  · rw [guarded_framePointer ht, guarded_framePointer ht, withCell_pc]
    exact .faults _
  · rw [guarded_of_ne ht, guarded_of_ne ht, guardRead, guardRead, readFault_withCell s c hr]
    split
    · exact .faults _
    · exact h

/-- The next states of two such effects differ in that register alone. -/
theorem settle_of_sameBut {i : Instr} {r : Reg} {c : Cell} {s t : State} {e e' : Effect} (h : SameBut i r c e e')
    (ht : settle s e = .next t) :
    ∃ c', settle (s.withCell r c) e' = .next (t.withCell r c') ∧
      (c' = c ∨ (target i = some r ∧ c' = t.x.get r)) := by
  cases h with
  | faults | kept => cases ht; exact ⟨c, rfl, .inl rfl⟩
  | overwritten u hi =>
    obtain rfl : u = t := Host.Outcome.next.inj ht
    exact ⟨u.x.get r, congrArg Host.Outcome.next (withCell_get u).symm, .inr ⟨hi, rfl⟩⟩

/-! ### Meanings that follow their footprint -/

/-- A body that a register which is no operand of the instruction does not influence. -/
def ReadsOperandsOnly (i : Instr) (body : State → Effect) : Prop :=
  ∀ s r c, r ∉ sources i → SameBut i r c (body s) (body (s.withCell r c))

/-- A meaning that is the instruction's two checks and then a body that reads its operands only. -/
def Follows (i : Instr) (run : State → Host.Outcome State Fault Refusal) : Prop :=
  ∃ body, (∀ s, run s = settle s (guarded i s (body s))) ∧ ReadsOperandsOnly i body

section Follows

variable {i : Instr} {d r : Reg} {rs : List Reg} {off : Word16} {imm : Word32}

theorem guardRead_nil (s : State) (k : Effect) : guardRead s [] k = k :=
  guardRead_of_readable (by simp [Readable]) k

theorem follows_of_both {body : State → Effect} (ht : target i = some d) (hs : sources i = rs)
    (hb : ReadsOperandsOnly i body) : Follows i fun s => settle s (guardWrite s d (guardRead s rs (body s))) :=
  ⟨body, fun s => by simp [guarded, ht, hs], hb⟩

theorem follows_of_write {body : State → Effect} (ht : target i = some d) (hs : sources i = [])
    (hb : ReadsOperandsOnly i body) : Follows i fun s => settle s (guardWrite s d (body s)) :=
  ⟨body, fun s => by simp [guarded, ht, hs, guardRead_nil], hb⟩

theorem follows_of_read {body : State → Effect} (ht : target i = none) (hs : sources i = rs)
    (hb : ReadsOperandsOnly i body) : Follows i fun s => settle s (guardRead s rs (body s)) :=
  ⟨body, fun s => by simp [guarded, ht, hs], hb⟩

theorem follows_of_none {body : State → Effect} (ht : target i = none) (hs : sources i = [])
    (hb : ReadsOperandsOnly i body) : Follows i fun s => settle s (body s) :=
  ⟨body, fun s => by simp [guarded, ht, hs, guardRead_nil], hb⟩

/-! #### Arithmetic -/

theorem writeResult_follows {v : State → Word} (ht : target i = some d) (hs : sources i = rs)
    (hv : ∀ s q c, q ∉ rs → v (s.withCell q c) = v s) : Follows i fun s => writeResult s d rs (v s) :=
  follows_of_both ht hs fun s q c hq => by
    rw [hv s q c (hs ▸ hq)]
    exact sameBut_writeReg ht s q c _ 1

theorem alu32K_follows (op : Word32 → Word32 → Word32) (ht : target i = some d) (hs : sources i = [d]) :
    Follows i (alu32K op d imm) :=
  writeResult_follows ht hs (by simp +contextual)

theorem alu32X_follows (op : Word32 → Word32 → Word32) (ht : target i = some d) (hs : sources i = [d, r]) :
    Follows i (alu32X op d r) :=
  writeResult_follows ht hs (by simp +contextual)

theorem alu64K_follows (op : Word → Word → Word) (ht : target i = some d) (hs : sources i = [d]) :
    Follows i (alu64K op d imm) :=
  writeResult_follows ht hs (by simp +contextual)

theorem alu64X_follows (op : Word → Word → Word) (ht : target i = some d) (hs : sources i = [d, r]) :
    Follows i (alu64X op d r) :=
  writeResult_follows ht hs (by simp +contextual)

/-! #### Jumps -/

theorem jumpIf_follows {c : State → Bool} (ht : target i = none) (hs : sources i = rs)
    (hc : ∀ s q cell, q ∉ rs → c (s.withCell q cell) = c s) : Follows i fun s => jumpIf s rs (c s) off :=
  follows_of_read ht hs fun s q cell hq => by
    rw [hc s q cell (hs ▸ hq)]
    cases c s
    · exact .kept _
    · exact .kept _

theorem jump64K_follows (c : Word → Word → Bool) (ht : target i = none) (hs : sources i = [d]) :
    Follows i (jump64K c d imm off) :=
  jumpIf_follows ht hs (by simp +contextual)

theorem jump64X_follows (c : Word → Word → Bool) (ht : target i = none) (hs : sources i = [d, r]) :
    Follows i (jump64X c d r off) :=
  jumpIf_follows ht hs (by simp +contextual)

theorem jump32K_follows (c : Word32 → Word32 → Bool) (ht : target i = none) (hs : sources i = [d]) :
    Follows i (jump32K c d imm off) :=
  jumpIf_follows ht hs (by simp +contextual)

theorem jump32X_follows (c : Word32 → Word32 → Bool) (ht : target i = none) (hs : sources i = [d, r]) :
    Follows i (jump32X c d r off) :=
  jumpIf_follows ht hs (by simp +contextual)

theorem jumpBy_follows (k : Int) (ht : target i = none) (hs : sources i = []) :
    Follows i fun s => settle s (.ok (jumpBy s k)) :=
  follows_of_none ht hs fun _ _ _ _ => .kept _

/-! #### Data memory -/

theorem load_follows (n : Nat) (ext : Word → Word) (ht : target i = some d) (hs : sources i = [r]) :
    Follows i (load n ext d r off) :=
  follows_of_both ht hs fun s q c hq => by
    have hr : q ≠ r := by simpa [hs] using hq
    rw [loadAddr_withCell s c off hr, memRead_withCell]
    cases memRead s (loadAddr s r off) n with
    | ok v => exact sameBut_writeReg ht s q c _ 1
    | error f => exact .faults f

theorem store_follows {v : State → Word} (n : Nat) (ht : target i = none) (hs : sources i = rs) (hd : d ∈ rs)
    (hv : ∀ s q c, q ∉ rs → v (s.withCell q c) = v s) :
    Follows i fun s => store n rs (storeAddr s d off) (v s) s :=
  follows_of_read ht hs fun s q c hq => by
    rw [hs] at hq
    rw [hv s q c hq, storeAddr_withCell s c off (ne_of_mem_of_not_mem hd hq).symm, memWrite_withCell]
    cases memWrite s (storeAddr s d off) n (v s) with
    | ok t => exact .kept _
    | error f => exact .faults f

theorem storeK_follows (n : Nat) (ht : target i = none) (hs : sources i = [d]) : Follows i (storeK n d imm off) :=
  store_follows n ht hs (by simp) fun _ _ _ _ => rfl

theorem storeX_follows (n : Nat) (ht : target i = none) (hs : sources i = [d, r]) : Follows i (storeX n d r off) :=
  store_follows n ht hs (by simp) (by simp +contextual)

/-! #### Atomic operations -/

theorem atomicPlain_follows (n : Nat) (f : Word → Word → Word) (ht : target i = none) (hs : sources i = [d, r]) :
    Follows i (atomicPlain n f d r off) :=
  follows_of_read ht hs fun s q c hq => by
    obtain ⟨hd, hr⟩ : q ≠ d ∧ q ≠ r := by simpa [hs] using hq
    rw [storeAddr_withCell s c off hd, srcVal_withCell s c hr, atomicRmw_withCell]
    cases atomicRmw s (storeAddr s d off) n fun old => f old (srcVal s r) with
    | ok p => exact .kept _
    | error e => exact .faults e

theorem atomicFetch_follows (n : Nat) (f : Word → Word → Word) (ht : target i = some r) (hs : sources i = [d, r]) :
    Follows i (atomicFetch n f d r off) :=
  follows_of_both ht hs fun s q c hq => by
    obtain ⟨hd, hr⟩ : q ≠ d ∧ q ≠ r := by simpa [hs] using hq
    rw [storeAddr_withCell s c off hd, srcVal_withCell s c hr, atomicRmw_withCell]
    cases atomicRmw s (storeAddr s d off) n fun old => f old (srcVal s r) with
    | ok p => exact sameBut_writeReg ht p.2 q c _ 1
    | error e => exact .faults e

/-- CMPXCHG has no write check of its own: its result goes to `x[0]`, which passes any. -/
theorem atomicCmpxchg_follows (n : Nat) (cmp : Word → Word → Bool) (ht : target i = some .r0)
    (hs : sources i = [d, r, .r0]) : Follows i (atomicCmpxchg n cmp d r off) :=
  follows_of_both ht hs fun s q c hq => by
    obtain ⟨hd, hr, h0⟩ : q ≠ d ∧ q ≠ r ∧ q ≠ .r0 := by simpa [hs] using hq
    rw [storeAddr_withCell s c off hd, srcVal_withCell s c hr, r0Val_withCell s c h0, atomicRmw_withCell]
    cases atomicRmw s (storeAddr s d off) n fun old => if cmp old (r0Val s) then srcVal s r else old with
    | ok p => exact sameBut_writeReg ht p.2 q c _ 1
    | error e => exact .faults e

/-! #### Platform objects -/

theorem writeObject_follows {v : State → Option Word} (kind : ObjectKind) (ht : target i = some d)
    (hs : sources i = []) (hv : ∀ s q c, v (s.withCell q c) = v s) :
    Follows i fun s => writeObject s d kind imm (v s) :=
  follows_of_write ht hs fun s q c _ => by
    rw [hv s q c]
    cases v s with
    | some a => exact sameBut_writeReg ht s q c a 2
    | none => exact .faults _

end Follows

/-- Every instruction but the calls and EXIT is its two checks and then a body that reads its operands only. -/
theorem exec_follows (i : Instr) (h : callsOrReturns i = false) : Follows i (exec i) := by
  unfold exec
  cases i with
  | add32K | sub32K | mul32K | div32K | sdiv32K | or32K | and32K | lsh32K | rsh32K | mod32K | smod32K | xor32K
  | arsh32K => exact alu32K_follows _ rfl rfl
  | add32X | sub32X | mul32X | div32X | sdiv32X | or32X | and32X | lsh32X | rsh32X | mod32X | smod32X | xor32X
  | arsh32X => exact alu32X_follows _ rfl rfl
  | neg32 | neg64 | le16 | le32 | le64 | be16 | be32 | be64 | bswap16 | bswap32 | bswap64 | mov32X
  | movsx32From8 | movsx32From16 | mov64X | movsx64From8 | movsx64From16 | movsx64From32 =>
    exact writeResult_follows rfl rfl (by simp +contextual)
  | mov32K | mov64K => exact writeResult_follows rfl rfl fun _ _ _ _ => rfl
  | add64K | sub64K | mul64K | div64K | sdiv64K | or64K | and64K | lsh64K | rsh64K | mod64K | smod64K | xor64K
  | arsh64K => exact alu64K_follows _ rfl rfl
  | add64X | sub64X | mul64X | div64X | sdiv64X | or64X | and64X | lsh64X | rsh64X | mod64X | smod64X | xor64X
  | arsh64X => exact alu64X_follows _ rfl rfl
  | ja | ja32 => exact jumpBy_follows _ rfl rfl
  | jeq64K | jgt64K | jge64K | jset64K | jne64K | jsgt64K | jsge64K | jlt64K | jle64K | jslt64K | jsle64K =>
    exact jump64K_follows _ rfl rfl
  | jeq64X | jgt64X | jge64X | jset64X | jne64X | jsgt64X | jsge64X | jlt64X | jle64X | jslt64X | jsle64X =>
    exact jump64X_follows _ rfl rfl
  | jeq32K | jgt32K | jge32K | jset32K | jne32K | jsgt32K | jsge32K | jlt32K | jle32K | jslt32K | jsle32K =>
    exact jump32K_follows _ rfl rfl
  | jeq32X | jgt32X | jge32X | jset32X | jne32X | jsgt32X | jsge32X | jlt32X | jle32X | jslt32X | jsle32X =>
    exact jump32X_follows _ rfl rfl
  | callHelper | callBtf | callLocal | exit => cases h
  | ldxB | ldxH | ldxW | ldxDw | ldxsB | ldxsH | ldxsW => exact load_follows _ _ rfl rfl
  | stB | stH | stW | stDw => exact storeK_follows _ rfl rfl
  | stxB | stxH | stxW | stxDw => exact storeX_follows _ rfl rfl
  | atomic32Add | atomic32Or | atomic32And | atomic32Xor | atomic64Add | atomic64Or | atomic64And | atomic64Xor =>
    exact atomicPlain_follows _ _ rfl rfl
  | atomic32FetchAdd | atomic32FetchOr | atomic32FetchAnd | atomic32FetchXor | atomic32Xchg | atomic64FetchAdd
  | atomic64FetchOr | atomic64FetchAnd | atomic64FetchXor | atomic64Xchg => exact atomicFetch_follows _ _ rfl rfl
  | atomic32Cmpxchg | atomic64Cmpxchg => exact atomicCmpxchg_follows _ _ rfl rfl
  | ldImm64 => exact follows_of_write rfl rfl fun s q c _ => sameBut_writeReg rfl s q c _ 2
  | ldMapFd | ldMapValFd | ldVarAddr | ldCodeAddr | ldMapIdx | ldMapValIdx =>
    exact writeObject_follows _ rfl rfl fun _ _ _ => rfl
  | ldAbsW | ldAbsH | ldAbsB | ldIndW | ldIndH | ldIndB => exact follows_of_none rfl rfl fun _ _ _ _ => .faults _

/-- The calls and EXIT name no register that receives a result, and none they read as an operand. -/
theorem footprint_of_callsOrReturns {i : Instr} (h : callsOrReturns i = true) : target i = none ∧ sources i = [] := by
  cases i with
  | callHelper | callLocal | callBtf | exit => exact ⟨rfl, rfl⟩
  | _ => cases h

/-! ### The obligations -/

/-- Settles O48: the write check is the outermost of the two. -/
theorem framePointerWriteRaises : Obligations.FramePointerWriteRaises := by
  intro s i ht
  have hi : callsOrReturns i = false := Bool.eq_false_iff.2 fun hc => by
    rw [(footprint_of_callsOrReturns hc).1] at ht
    cases ht
  obtain ⟨body, hrun, -⟩ := exec_follows i hi
  rw [hrun, guarded_framePointer ht]
  rfl

/-- Settles O49: past the write check, the read check finds the lowest-numbered unwritten operand. -/
theorem unwrittenReadRaises : Obligations.UnwrittenReadRaises := by
  intro s i r hraise ht hr hw hmin
  have hi : callsOrReturns i = false := Bool.eq_false_iff.2 fun hc => by
    rw [(footprint_of_callsOrReturns hc).2] at hr
    cases hr
  obtain ⟨body, hrun, -⟩ := exec_follows i hi
  rw [hrun, guarded_of_ne ht, guardRead_of_fault (readFault_lowest hraise hr hw hmin)]
  rfl

/-- Settles O55: neither the checks nor the body see a register that is no operand. -/
theorem otherRegistersDoNotMatter : Obligations.OtherRegistersDoNotMatter := by
  intro s t i r c hi hr ht
  obtain ⟨body, hrun, hbody⟩ := exec_follows i hi
  rw [hrun] at ht
  obtain ⟨c', hnext, hc'⟩ := settle_of_sameBut (sameBut_guarded (hbody s r c hr) hr) ht
  exact ⟨c', (hrun _).trans hnext, hc'⟩

end Sys2Proof.Machine

/-! PROOFS. Bytes and values: what a store leaves in each byte and what a read makes of the bytes, in either host order
(20_memory.md R43 to R45, R53, R59), and which accesses are admitted (R46). -/

namespace Sys2Proof

/-! ### The bytes of a value -/

theorem extractLsb'_ushiftRight_byte (v : Word) (k : Nat) :
    (v >>> 8).extractLsb' (8 * k) 8 = v.extractLsb' (8 * (k + 1)) 8 := by
  ext i hi
  simp only [BitVec.getElem_extractLsb', BitVec.getLsbD_ushiftRight]
  congr 1
  omega

theorem leBytes_getElem? {n k : Nat} (v : Word) (hk : k < n) :
    (leBytes n v)[k]? = some (v.extractLsb' (8 * k) 8) := by
  induction n generalizing v k with
  | zero => omega
  | succ n ih =>
    cases k with
    | zero => simp [leBytes, BitVec.setWidth_eq_extractLsb']
    | succ k => simpa [leBytes, extractLsb'_ushiftRight_byte] using ih (v >>> 8) (by omega : k < n)

theorem hostBytes_big_getElem? {n k : Nat} (v : Word) (hk : k < n) :
    (hostBytes .big n v)[n - 1 - k]? = some (v.extractLsb' (8 * k) 8) := by
  have hback : n - 1 - (n - 1 - k) = k := by omega
  rw [hostBytes, List.getElem?_reverse (by simp; omega), leBytes_length, hback]
  exact leBytes_getElem? v hk

/-! ### The value of bytes -/

/-- Bit `i` of the value of bytes is bit `i % 8` of byte `i / 8`. -/
theorem getLsbD_leValue (bs : List Byte) {i : Nat} (hi : i < 64) :
    (leValue bs).getLsbD i = (bs.getD (i / 8) 0#8).getLsbD (i % 8) := by
  induction bs generalizing i with
  | nil => simp [leValue]
  | cons b bs ih =>
    rw [leValue, BitVec.getLsbD_or, BitVec.getLsbD_setWidth, BitVec.getLsbD_shiftLeft]
    by_cases h : i < 8
    · have hdiv : i / 8 = 0 := by omega
      have hmod : i % 8 = i := by omega
      simp [h, hi, hdiv, hmod]
    · have hdiv : i / 8 = (i - 8) / 8 + 1 := by omega
      have hmod : i % 8 = (i - 8) % 8 := by omega
      have hhigh : b.getLsbD i = false := BitVec.getLsbD_of_ge b i (by omega)
      rw [hdiv, hmod, List.getD_cons_succ, ← ih (by omega : i - 8 < 64)]
      simp [h, hi, hhigh]

theorem extractLsb'_leValue {bs : List Byte} {k : Nat} {b : Byte} (hk : k < 8) (hb : bs[k]? = some b) :
    (leValue bs).extractLsb' (8 * k) 8 = b := by
  ext i hi
  have hdiv : (8 * k + i) / 8 = k := by omega
  have hmod : (8 * k + i) % 8 = i := by omega
  rw [BitVec.getElem_extractLsb', getLsbD_leValue bs (by omega), hdiv, hmod, List.getD_eq_getElem?_getD, hb]
  simp [hi]

theorem toNat_leValue_lt (bs : List Byte) : (leValue bs).toNat < 2 ^ (8 * bs.length) := by
  refine Nat.lt_pow_two_of_testBit _ fun i hi => ?_
  rw [BitVec.testBit_toNat]
  by_cases h : i < 64
  · rw [getLsbD_leValue bs h, List.getD_eq_default _ _ (by omega)]
    simp
  · exact BitVec.getLsbD_of_ge _ i (by omega)

/-- The value of the bytes of a value, as a word: its low bits, zero-extended (20_memory.md R44, R45). -/
theorem hostValue_hostBytes (e : Endian) (n : Nat) (v : Word) :
    hostValue e (hostBytes e n v) = (v.setWidth (8 * n)).setWidth 64 := by
  apply BitVec.eq_of_toNat_eq
  have hle : v.toNat % 2 ^ (8 * n) ≤ v.toNat := Nat.mod_le _ _
  rw [toNat_hostValue_hostBytes, BitVec.toNat_setWidth, BitVec.toNat_setWidth,
    Nat.mod_eq_of_lt (Nat.lt_of_le_of_lt hle v.isLt)]

end Sys2Proof

namespace Sys2Proof.Machine

/-! ### Bytes at rising addresses -/

theorem toNat_add_ofNat {addr : Word} {k : Nat} (h : addr.toNat + k < 2 ^ 64) :
    (addr + BitVec.ofNat 64 k).toNat = addr.toNat + k := by
  rw [BitVec.toNat_add, BitVec.toNat_ofNat]
  omega

/-- The bytes of an access that does not wrap, address by address. -/
theorem bytesAt_eq_map {s : State} {addr : Word} {n : Nat} (h : addr.toNat + n ≤ 2 ^ 64) :
    bytesAt s addr n = (List.range n).map fun i => byteAt s (addr.toNat + i) := by
  induction n generalizing addr with
  | zero => rfl
  | succ n ih =>
    rw [bytesAt, List.range_succ_eq_map, List.map_cons, List.map_map]
    cases n with
    | zero => rfl
    | succ n =>
      have haddr : (addr + 1#64).toNat = addr.toNat + 1 := toNat_add_ofNat (k := 1) (by omega)
      rw [ih (by omega), haddr]
      simp only [Function.comp_def, Nat.succ_eq_add_one, Nat.add_zero, Nat.add_assoc, Nat.add_comm 1]

theorem bytesAt_getElem? {s : State} {addr : Word} {n k : Nat} (h : addr.toNat + n ≤ 2 ^ 64) (hk : k < n) :
    (bytesAt s addr n)[k]? = some (byteAt s (addr.toNat + k)) := by
  simp [bytesAt_eq_map h, hk]

@[simp] theorem bytesAt_length (s : State) (addr : Word) (n : Nat) : (bytesAt s addr n).length = n := by
  induction n generalizing addr with
  | zero => rfl
  | succ n ih => rw [bytesAt, List.length_cons, ih]

/-- Settles O41: each byte of the value of bytes is the byte at its place in the list. -/
theorem loadedBytes : Obligations.LoadedBytes := by
  intro s addr n hn hw
  have hn8 : n ≤ 8 := by
    simp only [List.mem_cons, List.not_mem_nil, or_false] at hn
    omega
  refine ⟨fun k hk he => ?_, fun k hk he => ?_, ?_⟩
  · rw [valueAt, he]
    exact extractLsb'_leValue (by omega) (bytesAt_getElem? hw hk)
  · rw [valueAt, he]
    refine extractLsb'_leValue (by omega) ?_
    rw [List.getElem?_reverse (by simpa using hk), bytesAt_length]
    exact bytesAt_getElem? hw (by omega)
  · unfold valueAt hostValue
    split
    · simpa using toNat_leValue_lt (bytesAt s addr n)
    · simpa using toNat_leValue_lt (bytesAt s addr n).reverse

/-! ### Bytes after a store -/

theorem ownByte_stored {s : State} {addr v : Word} {n k : Nat} {b : Byte} (hw : addr.toNat + n ≤ 2 ^ 64)
    (hk : k < n) (hb : (hostBytes s.cfg.hostEndian n v)[k]? = some b) :
    ownByte (stored s addr n v) (addr.toNat + k) = b := by
  rw [ownByte, stored_mem, Memory.get?_putBytes_of_mem _ _ _ _ (by simpa using hw) (by simpa using hk), hb]
  rfl

/-- A byte outside the access keeps what was last stored there. -/
theorem get?_putBytes_of_not_inRange (m : Memory) {addr : Word} {n a : Nat} (e : Endian) (v : Word)
    (hw : addr.toNat + n ≤ 2 ^ 64) (ha : ¬ inRange addr n a) :
    (m.putBytes addr (hostBytes e n v)).get? a = m.get? a := by
  unfold inRange at ha
  refine Memory.get?_putBytes_of_not_mem _ _ _ _ (by simpa using hw) ?_
  rw [hostBytes_length]
  omega

/-- What a byte reads as follows from what was last stored there, under one configuration and at one step. -/
theorem byteAt_congr {s t : State} {a : Nat} (hmem : t.mem.get? a = s.mem.get? a) (hcfg : t.cfg = s.cfg)
    (htick : t.tick = s.tick) : byteAt t a = byteAt s a := by
  have hshared : isShared t a = isShared s a := by rw [isShared, hcfg, isShared]
  simp only [byteAt, ownByte, hshared, hmem, htick]

/-- Settles O40: a stored byte is the one at its place in the list of host bytes. -/
theorem storedBytes : Obligations.StoredBytes := by
  intro s addr v n _ hw
  refine ⟨fun k hk he => ?_, fun k hk he => ?_, fun a ha => ?_⟩
  · exact ownByte_stored hw hk (by rw [he]; exact leBytes_getElem? v hk)
  · exact ownByte_stored hw (by omega) (by rw [he]; exact hostBytes_big_getElem? v hk)
  · exact byteAt_congr (get?_putBytes_of_not_inRange s.mem s.cfg.hostEndian v hw ha) rfl rfl

/-! ### Reading back -/

section ReadBack

variable {s : State} {m : Memory} {addr : Word} {bs : List Byte}

theorem byteAt_of_putBytes {i : Nat} (hmem : s.mem = m.putBytes addr bs) (hw : addr.toNat + bs.length ≤ 2 ^ 64)
    (hp : privateRange s addr bs.length) (hi : i < bs.length) : byteAt s (addr.toNat + i) = bs[i] := by
  have hown : isShared s (addr.toNat + i) = false := hp _ ⟨by omega, by omega⟩
  have hget : s.mem.get? (addr.toNat + i) = some bs[i] := by
    rw [hmem, Memory.get?_putBytes_of_mem _ _ _ _ hw hi, List.getElem?_eq_getElem hi]
  simp [byteAt, ownByte, hown, hget]

/-- Reading some of the bytes just stored, unshared, gives those bytes. -/
theorem bytesAt_of_putBytes {k n : Nat} (hmem : s.mem = m.putBytes addr bs)
    (hw : addr.toNat + bs.length ≤ 2 ^ 64) (hp : privateRange s addr bs.length) (hk : k < bs.length)
    (hn : k + n ≤ bs.length) : bytesAt s (addr + BitVec.ofNat 64 k) n = (bs.drop k).take n := by
  have haddr : (addr + BitVec.ofNat 64 k).toNat = addr.toNat + k := toNat_add_ofNat (by omega)
  rw [bytesAt_eq_map (by omega), haddr]
  refine List.ext_getElem (by simp; omega) fun i hi _ => ?_
  have hi : i < n := by simpa using hi
  simp only [List.getElem_map, List.getElem_range, List.getElem_take, List.getElem_drop, Nat.add_assoc]
  exact byteAt_of_putBytes hmem hw hp (by omega)

end ReadBack

/-- What a read of `n` bytes from byte `k` on sees of an access of `w` unshared bytes just stored. -/
theorem valueAt_of_putBytes {s : State} {m : Memory} {addr v : Word} {w : Nat} (k n : Nat)
    (hmem : s.mem = m.putBytes addr (hostBytes s.cfg.hostEndian w v)) (hw : addr.toNat + w ≤ 2 ^ 64)
    (hp : privateRange s addr w) (hk : k < w) (hn : k + n ≤ w) :
    valueAt s (addr + BitVec.ofNat 64 k) n =
      hostValue s.cfg.hostEndian (((hostBytes s.cfg.hostEndian w v).drop k).take n) := by
  rw [valueAt, bytesAt_of_putBytes hmem] <;> simpa

theorem valueAt_of_putBytes_same {s : State} {m : Memory} {addr v : Word} {n : Nat}
    (hmem : s.mem = m.putBytes addr (hostBytes s.cfg.hostEndian n v)) (hw : addr.toNat + n ≤ 2 ^ 64)
    (hp : privateRange s addr n) (hn : 0 < n) : valueAt s addr n = (v.setWidth (8 * n)).setWidth 64 := by
  have h := valueAt_of_putBytes 0 n hmem hw hp hn (by omega)
  rw [List.drop_zero, List.take_of_length_le (by simp), hostValue_hostBytes] at h
  simpa using h

/-- Settles O59: a narrower read takes a part of the list of the eight bytes stored. -/
theorem mixedWidthAccess : Obligations.MixedWidthAccess := by
  rintro s t a hw hp rfl
  have hread (k n : Nat) (hk : k < 8) (hn : k + n ≤ 8) :=
    valueAt_of_putBytes (s := storeAt s a 8 0x1122334455667788#64) k n rfl hw hp hk hn
  have hzero : a + BitVec.ofNat 64 0 = a := BitVec.add_zero a
  have h1 := hread 0 1 (by omega) (by omega)
  have h2 := hread 0 2 (by omega) (by omega)
  have h4 := hread 0 4 (by omega) (by omega)
  have h44 := hread 4 4 (by omega) (by omega)
  rw [hzero] at h1 h2 h4
  refine ⟨fun he => ?_, fun he => ?_⟩
  · rw [h1, h2, h4, h44, storeAt_cfg, he]
    decide
  · rw [h1, h2, h4, h44, storeAt_cfg, he]
    decide

/-! ### A load after a store -/

theorem ok_of_settle_running {s t : State} {e : Effect} (h : settle s e = .next t) (ht : t.status = .running) :
    e = .ok t := by
  cases h
  cases e with
  | ok t => rfl
  | error f => cases ht

/-- A store that did not fault was aligned where that is needed, admitted, and stored. -/
theorem storeX_running {s t : State} {n : Nat} {d r : Reg} {off : Word16} (h : storeX n d r off s = .next t)
    (ht : t.status = .running) :
    plainMisaligned s (storeAddr s d off) n = false ∧ memAdmit s (storeAddr s d off) n .write = true ∧
      t = stored s (storeAddr s d off) n (srcVal s r) := by
  have hok := ok_of_guardRead (ok_of_settle_running h ht)
  split at hok
  · rename_i u hu
    obtain ⟨halign, hadmit, rfl⟩ := memWrite_ok hu
    cases hok
    exact ⟨halign, hadmit, rfl⟩
  · cases hok

theorem storeAddr_eq_loadAddr {s : State} {d : Reg} (off : Word16) (h : (s.x.get d).written = true) :
    storeAddr s d off = loadAddr s d off := by
  simp [storeAddr, loadAddr, dstVal, srcVal, operand, h]

/-- The load of `n` unshared bytes through the base they were just stored through. -/
theorem load_after_storeX {s t : State} {n : Nat} {d r q : Reg} {off : Word16} (hn : 0 < n)
    (hd : (s.x.get d).written = true) (hq : q ≠ .r10) (hst : storeX n d r off s = .next t)
    (ht : t.status = .running) (hm : memAdmit s (storeAddr s d off) n .read = true)
    (hp : privateRange s (storeAddr s d off) n) :
    load n (fun v => v) q d off t = .next (wrote t q (((srcVal s r).setWidth (8 * n)).setWidth 64) 1) := by
  obtain ⟨halign, -, rfl⟩ := storeX_running hst ht
  have haddr := storeAddr_eq_loadAddr off hd
  rw [← valueAt_of_putBytes_same (s := stored s (storeAddr s d off) n (srcVal s r)) rfl
    ((memAdmit_iff _ _ _ _).1 hm).1 hp hn, haddr]
  rw [haddr] at halign hm
  exact load_next n _ hq (by simp [Readable, hd]) halign hm

/-- Settles O58, once for the four widths. -/
theorem storeThenLoad : Obligations.StoreThenLoad := fun _ _ _ _ _ _ hd hq =>
  ⟨fun _ h ht hm hp => load_after_storeX (n := 1) (by decide) hd hq h ht hm hp,
    fun _ h ht hm hp => load_after_storeX (n := 2) (by decide) hd hq h ht hm hp,
    fun _ h ht hm hp => load_after_storeX (n := 4) (by decide) hd hq h ht hm hp,
    fun _ h ht hm hp => load_after_storeX (n := 8) (by decide) hd hq h ht hm hp⟩

/-! ### Admission -/

/-- A region holds every byte of a range exactly when it reaches from its first byte to its last. -/
theorem holds_inRange_iff {g : Region} {addr : Word} {n : Nat} (hn : 0 < n) :
    (∀ a, inRange addr n a → g.holds a = true) ↔
      g.base.toNat ≤ addr.toNat ∧ addr.toNat + n ≤ g.base.toNat + g.size := by
  simp only [Region.holds, Bool.and_eq_true, decide_eq_true_eq, inRange]
  constructor
  · intro h
    have hfirst := h addr.toNat (by omega)
    have hlast := h (addr.toNat + n - 1) (by omega)
    omega
  · intro h a ha
    omega

/-- Settles O52: MemAdmit compares the ends of the range with the ends of one region. -/
theorem admissionMeansOneRegion : Obligations.AdmissionMeansOneRegion := by
  intro s addr n kind hn
  simp only [memAdmit_iff, holds_inRange_iff hn]

end Sys2Proof.Machine

/-! PROOFS. The accesses of an instruction: which faults its one access takes, which bytes it may change, and what no
step changes (20_memory.md R40, R45 to R47, R52, R57; 60_exceptions.md R341, R342). -/

namespace Sys2Proof.Machine

/-! ### The faults of an access -/

theorem plainMisaligned_iff {s : State} {kind : AccessKind} {addr : Word} {n : Nat} (hk : kind ≠ .atomic) :
    plainMisaligned s addr n = true ↔ ¬ aligned s kind addr n := by
  simp [plainMisaligned, aligned, hk]

theorem aligned_atomic_iff {s : State} {addr : Word} {n : Nat} :
    aligned s .atomic addr n ↔ addr.toNat % n = 0 := by
  simp [aligned]

/-- The outcome is that of an access with its two checks: Misaligned ahead of MemoryAccess (20_memory.md R44, R45,
R52). -/
def ChecksAccess (s : State) (kind : AccessKind) (addr : Word) (n : Nat)
    (o : Host.Outcome State Fault Refusal) : Prop :=
  (¬ aligned s kind addr n → o = .next (raise s (.misaligned addr n))) ∧
    (aligned s kind addr n → memAdmit s addr n kind = false → o = .next (raise s (.memoryAccess addr n kind)))

section ChecksAccess

variable {s : State} {d r : Reg} {rs : List Reg} {off : Word16}

theorem load_checksAccess (n : Nat) (ext : Word → Word) (hd : d ≠ .r10) (hr : Readable s [r]) :
    ChecksAccess s .read (loadAddr s r off) n (load n ext d r off s) :=
  ⟨fun h => load_misaligned hd hr ((plainMisaligned_iff (by decide)).2 h),
    fun h => load_refused hd hr (Bool.eq_false_iff.2 fun hm => (plainMisaligned_iff (by decide)).1 hm h)⟩

theorem store_checksAccess (n : Nat) (addr v : Word) (hr : Readable s rs) :
    ChecksAccess s .write addr n (store n rs addr v s) :=
  ⟨fun h => store_misaligned hr ((plainMisaligned_iff (by decide)).2 h),
    fun h => store_refused hr (Bool.eq_false_iff.2 fun hm => (plainMisaligned_iff (by decide)).1 hm h)⟩

theorem atomicPlain_checksAccess (n : Nat) (f : Word → Word → Word) (hr : Readable s [d, r]) :
    ChecksAccess s .atomic (storeAddr s d off) n (atomicPlain n f d r off s) :=
  ⟨fun h => atomicPlain_misaligned hr (mt aligned_atomic_iff.2 h),
    fun h => atomicPlain_refused hr (aligned_atomic_iff.1 h)⟩

theorem atomicFetch_checksAccess (n : Nat) (f : Word → Word → Word) (hd : r ≠ .r10) (hr : Readable s [d, r]) :
    ChecksAccess s .atomic (storeAddr s d off) n (atomicFetch n f d r off s) :=
  ⟨fun h => atomicFetch_misaligned hd hr (mt aligned_atomic_iff.2 h),
    fun h => atomicFetch_refused hd hr (aligned_atomic_iff.1 h)⟩

theorem atomicCmpxchg_checksAccess (n : Nat) (cmp : Word → Word → Bool) (hr : Readable s [d, r, .r0]) :
    ChecksAccess s .atomic (storeAddr s d off) n (atomicCmpxchg n cmp d r off s) :=
  ⟨fun h => atomicCmpxchg_misaligned hr (mt aligned_atomic_iff.2 h),
    fun h => atomicCmpxchg_refused hr (aligned_atomic_iff.1 h)⟩

end ChecksAccess

theorem ne_r10_of_target {i : Instr} {d : Reg} (h : target i ≠ some .r10) (hd : target i = some d) : d ≠ .r10 :=
  fun e => h (e ▸ hd)

/-- Every instruction that accesses memory makes the two checks of its access once the earlier ones have passed. -/
theorem exec_checksAccess {s : State} {i : Instr} {kind : AccessKind} {addr : Word} {n : Nat}
    (hreach : reachesAccess s i) (ha : access s i = some (kind, addr, n)) :
    ChecksAccess s kind addr n (exec i s) := by
  obtain ⟨ht, hr⟩ := hreach
  unfold exec
  cases i with
  | ldxB | ldxH | ldxW | ldxDw | ldxsB | ldxsH | ldxsW =>
    cases ha
    exact load_checksAccess _ _ (ne_r10_of_target ht rfl) hr
  | stB | stH | stW | stDw | stxB | stxH | stxW | stxDw =>
    cases ha
    exact store_checksAccess _ _ _ hr
  | atomic32Add | atomic32Or | atomic32And | atomic32Xor | atomic64Add | atomic64Or | atomic64And | atomic64Xor =>
    cases ha
    exact atomicPlain_checksAccess _ _ hr
  | atomic32FetchAdd | atomic32FetchOr | atomic32FetchAnd | atomic32FetchXor | atomic32Xchg | atomic64FetchAdd
  | atomic64FetchOr | atomic64FetchAnd | atomic64FetchXor | atomic64Xchg =>
    cases ha
    exact atomicFetch_checksAccess _ _ (ne_r10_of_target ht rfl) hr
  | atomic32Cmpxchg | atomic64Cmpxchg =>
    cases ha
    exact atomicCmpxchg_checksAccess _ _ hr
  | _ => cases ha

/-- Settles O50: the first of the two checks. -/
theorem misalignedAccessRaises : Obligations.MisalignedAccessRaises := fun _ _ _ _ _ hreach ha =>
  (exec_checksAccess hreach ha).1

/-- Settles O51: the second of the two checks. -/
theorem refusedAccessRaises : Obligations.RefusedAccessRaises := fun _ _ _ _ _ hreach ha =>
  (exec_checksAccess hreach ha).2

/-! ### The bytes an instruction may change -/

/-- A byte that reads differently after an instruction other than a helper call lies in its own admitted store or
atomic access. -/
theorem Does.changed_byte {s t : State} {i : Instr} {a : Nat} (h : Does s i t) (hc : callsHelper i = false)
    (ha : byteAt t a ≠ byteAt s a) :
    ∃ kind addr n, access s i = some (kind, addr, n) ∧ kind ≠ .read ∧ memAdmit s addr n kind = true ∧
      inRange addr n a := by
  cases h with
  | raises | writes | jumps | calls | returns | exits => exact absurd rfl ha
  | helped _ _ hh | waits hh => rw [hh] at hc; cases hc
  | stores addr n v kind hacc hk hm =>
    refine ⟨kind, addr, n, hacc, hk, hm, Classical.not_not.1 fun hout => ha ?_⟩
    exact byteAt_congr (get?_putBytes_of_not_inRange _ _ _ ((memAdmit_iff _ _ _ _).1 hm).1 hout) rfl rfl
  | swaps addr n v _ _ hacc hm =>
    refine ⟨.atomic, addr, n, hacc, by decide, hm, Classical.not_not.1 fun hout => ha ?_⟩
    exact byteAt_congr (get?_putBytes_of_not_inRange _ _ _ ((memAdmit_iff _ _ _ _).1 hm).1 hout) rfl rfl

/-- Settles O54: a byte that changed would lie in the access. -/
theorem memoryFrame : Obligations.MemoryFrame := by
  intro s t i h hc a hout
  by_contra ha
  obtain ⟨kind, addr, n, hacc, hk, -, hin⟩ := (does_of_exec h).changed_byte hc ha
  exact hout kind addr n hacc hk hin

/-- Settles O56: the access that changed the byte was admitted, and not for reading. -/
theorem onlyAdmittedBytesChange : Obligations.OnlyAdmittedBytesChange := by
  intro s t i a h hc ha
  obtain ⟨kind, addr, n, -, hk, hm, hin⟩ := (does_of_exec h).changed_byte hc ha
  have hreach : reachable s kind a := reachable_of_memAdmit hm hin
  cases kind with
  | read => exact absurd rfl hk
  | write => exact .inl hreach
  | atomic => exact .inr hreach

/-! ### What no step changes -/

theorem Does.parameters {s t : State} {i : Instr} (h : Does s i t) :
    t.prog = s.prog ∧ t.cfg = s.cfg ∧ t.tick = s.tick := by
  cases h <;> exact ⟨rfl, rfl, rfl⟩

/-- Settles O19: neither a fault nor an instruction touches program, configuration or counter; the step counts one. -/
theorem stepKeepsProgramAndConfiguration : Obligations.StepKeepsProgramAndConfiguration := by
  intro s t h
  rcases step_next_cases h with ⟨f, -, rfl⟩ | ⟨i, u, -, hu, rfl⟩
  · exact ⟨rfl, rfl, rfl⟩
  · obtain ⟨hprog, hcfg, htick⟩ := (does_of_exec hu).parameters
    exact ⟨hprog, hcfg, congrArg (· + 1) htick⟩

end Sys2Proof.Machine

/-! PROOFS. Isolation: what lies in bytes no region opens for reading or atomic operations has no effect on a step
(20_memory.md R46; 60_exceptions.md R349). Two states that differ in such bytes alone are run side by side: each shared
operation answers next states that differ in memory alone, and changes both memories in the same way. -/

namespace Sys2Proof.Machine

/-! ### Changes of memory that do not look at it -/

/-- A change of memory that treats each byte alike in every memory: it stores one fixed byte there, or leaves it. -/
def Memory.BlindWrite (w : Memory → Memory) : Prop :=
  ∀ a, (∃ b, ∀ m, (w m).get? a = some b) ∨ ∀ m, (w m).get? a = m.get? a

theorem Memory.blindWrite_id : Memory.BlindWrite fun m => m := fun _ => .inr fun _ => rfl

theorem Memory.blindWrite_put (a : Nat) (b : Byte) : Memory.BlindWrite fun m => m.put a b := by
  intro q
  by_cases h : q = a
  · subst h
    exact .inl ⟨b, fun m => Memory.get?_put_self m q b⟩
  · exact .inr fun m => Memory.get?_put_of_ne m b h

theorem Memory.BlindWrite.comp {w w' : Memory → Memory} (h' : BlindWrite w') (h : BlindWrite w) :
    BlindWrite fun m => w' (w m) := by
  intro a
  rcases h' a with ⟨b, hb⟩ | hkeep
  · exact .inl ⟨b, fun m => hb (w m)⟩
  · simpa only [hkeep] using h a

theorem Memory.blindWrite_putBytes (addr : Word) (bs : List Byte) :
    Memory.BlindWrite fun m => m.putBytes addr bs := by
  induction bs generalizing addr with
  | nil => exact blindWrite_id
  | cons b rest ih => exact (ih (addr + 1#64)).comp (blindWrite_put addr.toNat b)

/-- What a blind write does to two memories, byte by byte. -/
theorem Memory.BlindWrite.get? {w : Memory → Memory} (h : BlindWrite w) (m m' : Memory) (a : Nat) :
    (m'.get? a = m.get? a → (w m').get? a = (w m).get? a) ∧
      (m'.get? a ≠ m.get? a →
        (w m').get? a = (w m).get? a ∨ ((w m').get? a = m'.get? a ∧ (w m).get? a = m.get? a)) := by
  rcases h a with ⟨b, hb⟩ | hkeep
  · exact ⟨fun _ => (hb m').trans (hb m).symm, fun _ => .inl ((hb m').trans (hb m).symm)⟩
  · exact ⟨fun hm => by rw [hkeep, hkeep, hm], fun _ => .inr ⟨hkeep m', hkeep m⟩⟩

/-! ### A state with another memory -/

/-- The state with its memory replaced. -/
def State.withMem (s : State) (m : Memory) : State := { s with mem := m }

/-- The memory agrees with the state's on every byte a region in force opens for reading or atomic operations. -/
def AgreesOnReachable (s : State) (m : Memory) : Prop :=
  ∀ a, reachable s .read a ∨ reachable s .atomic a → m.get? a = s.mem.get? a

theorem fetch_withMem (s : State) (m : Memory) : fetch (s.withMem m) = fetch s := rfl

theorem valueAt_withMem {s : State} {m : Memory} {addr : Word} {n : Nat} {kind : AccessKind}
    (hag : AgreesOnReachable s m) (hk : kind ≠ .write) (hm : memAdmit s addr n kind = true) :
    valueAt (s.withMem m) addr n = valueAt s addr n := by
  have hw : addr.toNat + n ≤ 2 ^ 64 := ((memAdmit_iff _ _ _ _).1 hm).1
  have hbyte (a : Nat) (ha : inRange addr n a) : byteAt (s.withMem m) a = byteAt s a := by
    have hreach := reachable_of_memAdmit hm ha
    refine byteAt_congr (hag a ?_) rfl rfl
    cases kind with
    | read => exact .inl hreach
    | atomic => exact .inr hreach
    | write => exact absurd rfl hk
  have hbytes : bytesAt (s.withMem m) addr n = bytesAt s addr n := by
    rw [bytesAt_eq_map hw, bytesAt_eq_map hw]
    refine List.map_congr_left fun i hi => hbyte _ ⟨by omega, ?_⟩
    have := List.mem_range.1 hi
    omega
  rw [valueAt, valueAt, hbytes]
  rfl

/-! ### Effects that differ in memory -/

/-- Two effects, one from `s` and one from `s` with memory `m`: the same fault, or states that differ in memory alone,
after one blind write in both. -/
inductive SameButMem (s : State) (m : Memory) : Effect → Effect → Prop where
  | faults (f : RunFault) : SameButMem s m (.error f) (.error f)
  | goesOn (t : State) {w : Memory → Memory} (hw : Memory.BlindWrite w) (ht : t.mem = w s.mem) :
      SameButMem s m (.ok t) (.ok (t.withMem (w m)))

/-- The outcomes of running one operation from `s` and from `s` with memory `m` differ in memory alone, after one blind
write in both. -/
def SameNext (s : State) (m : Memory) (o o' : Host.Outcome State Fault Refusal) : Prop :=
  ∃ t w, Memory.BlindWrite w ∧ t.mem = w s.mem ∧ o = .next t ∧ o' = .next (t.withMem (w m))

/-- Going on to a state with the memory untouched. -/
theorem SameButMem.keeps (s : State) (m : Memory) (t : State) (ht : t.mem = s.mem) :
    SameButMem s m (.ok t) (.ok (t.withMem m)) :=
  .goesOn t Memory.blindWrite_id ht

section SameNext

variable {s : State} {m : Memory}

theorem SameButMem.settle {e e' : Effect} (h : SameButMem s m e e') :
    SameNext s m (settle s e) (settle (s.withMem m) e') := by
  cases h with
  | faults f => exact ⟨raise s f, _, Memory.blindWrite_id, rfl, rfl, rfl⟩
  | goesOn t hw ht => exact ⟨t, _, hw, ht, rfl, rfl⟩

theorem SameButMem.guardWrite {e e' : Effect} (h : SameButMem s m e e') (r : Reg) :
    SameButMem s m (guardWrite s r e) (guardWrite (s.withMem m) r e') := by
  unfold Machine.guardWrite
  split
  · exact .faults _
  · exact h

theorem SameButMem.guardRead {e e' : Effect} (h : SameButMem s m e e') (rs : List Reg) :
    SameButMem s m (guardRead s rs e) (guardRead (s.withMem m) rs e') := by
  have hfault : readFault (s.withMem m) rs = readFault s rs := rfl
  unfold Machine.guardRead
  rw [hfault]
  split
  · exact .faults _
  · exact h

/-! ### The shared operations -/

theorem writeResult_sameNext (d : Reg) (rs : List Reg) (v : Word) :
    SameNext s m (writeResult s d rs v) (writeResult (s.withMem m) d rs v) :=
  (((SameButMem.keeps s m (advance (writeReg s d v) 1) rfl).guardRead rs).guardWrite d).settle

theorem jumpIf_sameNext (rs : List Reg) (taken : Bool) (off : Word16) :
    SameNext s m (jumpIf s rs taken off) (jumpIf (s.withMem m) rs taken off) := by
  refine (SameButMem.guardRead ?_ rs).settle
  cases taken
  · exact .keeps s m (advance s 1) rfl
  · exact .keeps s m (jumpBy s off.toInt) rfl

theorem jumpBy_sameNext (k : Int) :
    SameNext s m (settle s (.ok (jumpBy s k))) (settle (s.withMem m) (.ok (jumpBy (s.withMem m) k))) :=
  (SameButMem.keeps s m (jumpBy s k) rfl).settle

theorem raise_sameNext (f : RunFault) : SameNext s m (settle s (.error f)) (settle (s.withMem m) (.error f)) :=
  (SameButMem.faults f).settle

theorem writeObject_sameNext (d : Reg) (kind : ObjectKind) (imm : Word32) (v : Option Word) :
    SameNext s m (writeObject s d kind imm v) (writeObject (s.withMem m) d kind imm v) := by
  refine (SameButMem.guardWrite ?_ d).settle
  cases v with
  | some a => exact .keeps s m (advance (writeReg s d a) 2) rfl
  | none => exact .faults _

theorem loadImmediate_sameNext (d : Reg) (v : Word) :
    SameNext s m (settle s (guardWrite s d (.ok (advance (writeReg s d v) 2))))
      (settle (s.withMem m) (guardWrite (s.withMem m) d (.ok (advance (writeReg (s.withMem m) d v) 2)))) :=
  ((SameButMem.keeps s m (advance (writeReg s d v) 2) rfl).guardWrite d).settle

theorem callLocal_sameNext (disp : Int) : SameNext s m (callLocal disp s) (callLocal disp (s.withMem m)) := by
  refine SameButMem.settle ?_
  have hdepth : depthReached (s.withMem m) = depthReached s := rfl
  rw [hdepth]
  split
  · exact .faults _
  · exact .keeps s m (enterCallee s disp) rfl

theorem exitOrReturn_sameNext : SameNext s m (exitOrReturn s) (exitOrReturn (s.withMem m)) := by
  refine SameButMem.settle ?_
  have hstack : (s.withMem m).callstack = s.callstack := rfl
  rw [hstack]
  split
  · exact (SameButMem.keeps s m { s with status := .exited (r0Val s) } rfl).guardRead _
  · exact .keeps s m (returnTo s _) rfl

theorem store_sameNext (n : Nat) (rs : List Reg) (addr v : Word) :
    SameNext s m (store n rs addr v s) (store n rs addr v (s.withMem m)) := by
  refine (SameButMem.guardRead ?_ rs).settle
  have halign : plainMisaligned (s.withMem m) addr n = plainMisaligned s addr n := rfl
  have hadmit : memAdmit (s.withMem m) addr n .write = memAdmit s addr n .write := rfl
  rw [memWrite, memWrite, halign, hadmit]
  cases plainMisaligned s addr n
  · cases memAdmit s addr n .write
    · exact .faults _
    · exact .goesOn (advance (storeAt s addr n v) 1) (Memory.blindWrite_putBytes _ _) rfl
  · exact .faults _

theorem memRead_withMem (hag : AgreesOnReachable s m) (addr : Word) (n : Nat) :
    memRead (s.withMem m) addr n = memRead s addr n := by
  have halign : plainMisaligned (s.withMem m) addr n = plainMisaligned s addr n := rfl
  have hadmit : memAdmit (s.withMem m) addr n .read = memAdmit s addr n .read := rfl
  rw [memRead, memRead, halign, hadmit]
  split
  · rfl
  · split
    · rw [valueAt_withMem (kind := .read) hag (by decide) ‹_›]
    · rfl

theorem load_sameNext (hag : AgreesOnReachable s m) (n : Nat) (ext : Word → Word) (d r : Reg) (off : Word16) :
    SameNext s m (load n ext d r off s) (load n ext d r off (s.withMem m)) := by
  refine ((SameButMem.guardRead ?_ [r]).guardWrite d).settle
  have haddr : loadAddr (s.withMem m) r off = loadAddr s r off := rfl
  rw [haddr, memRead_withMem hag]
  cases memRead s (loadAddr s r off) n with
  | ok v => exact .keeps s m (advance (writeReg s d (ext v)) 1) rfl
  | error f => exact .faults f

/-- An atomic operation faults alike from both states, or reads one old value and stores one new one. -/
theorem atomicRmw_withMem (hag : AgreesOnReachable s m) (addr : Word) (n : Nat) (f : Word → Word) :
    (∃ e, atomicRmw s addr n f = .error e ∧ atomicRmw (s.withMem m) addr n f = .error e) ∨
      ∃ old v, atomicRmw s addr n f = .ok (old, storeAt s addr n v) ∧
        atomicRmw (s.withMem m) addr n f = .ok (old, storeAt (s.withMem m) addr n v) := by
  have hadmit : memAdmit (s.withMem m) addr n .atomic = memAdmit s addr n .atomic := rfl
  rw [atomicRmw, atomicRmw, hadmit]
  split
  · exact .inl ⟨_, rfl, rfl⟩
  · split
    · rw [valueAt_withMem (kind := .atomic) hag (by decide) ‹_›]
      exact .inr ⟨_, _, rfl, rfl⟩
    · exact .inl ⟨_, rfl, rfl⟩

theorem atomicPlain_sameNext (hag : AgreesOnReachable s m) (n : Nat) (f : Word → Word → Word) (d r : Reg)
    (off : Word16) : SameNext s m (atomicPlain n f d r off s) (atomicPlain n f d r off (s.withMem m)) := by
  refine (SameButMem.guardRead ?_ [d, r]).settle
  have haddr : storeAddr (s.withMem m) d off = storeAddr s d off := rfl
  have hval : srcVal (s.withMem m) r = srcVal s r := rfl
  rw [haddr, hval]
  rcases atomicRmw_withMem hag (storeAddr s d off) n (fun old => f old (srcVal s r)) with
    ⟨e, h, h'⟩ | ⟨old, v, h, h'⟩
  · rw [h, h']
    exact .faults e
  · rw [h, h']
    exact .goesOn (advance (storeAt s _ n v) 1) (Memory.blindWrite_putBytes _ _) rfl

theorem atomicFetch_sameNext (hag : AgreesOnReachable s m) (n : Nat) (f : Word → Word → Word) (d r : Reg)
    (off : Word16) : SameNext s m (atomicFetch n f d r off s) (atomicFetch n f d r off (s.withMem m)) := by
  refine ((SameButMem.guardRead ?_ [d, r]).guardWrite r).settle
  have haddr : storeAddr (s.withMem m) d off = storeAddr s d off := rfl
  have hval : srcVal (s.withMem m) r = srcVal s r := rfl
  rw [haddr, hval]
  rcases atomicRmw_withMem hag (storeAddr s d off) n (fun old => f old (srcVal s r)) with
    ⟨e, h, h'⟩ | ⟨old, v, h, h'⟩
  · rw [h, h']
    exact .faults e
  · rw [h, h']
    exact .goesOn (advance (writeReg (storeAt s _ n v) r old) 1) (Memory.blindWrite_putBytes _ _) rfl

/-- CMPXCHG passes the write check of FETCH, as its result goes to `x[0]`. -/
theorem atomicCmpxchg_sameNext (hag : AgreesOnReachable s m) (n : Nat) (cmp : Word → Word → Bool) (d r : Reg)
    (off : Word16) : SameNext s m (atomicCmpxchg n cmp d r off s) (atomicCmpxchg n cmp d r off (s.withMem m)) := by
  refine (SameButMem.guardRead ?_ [d, r, .r0]).settle
  have haddr : storeAddr (s.withMem m) d off = storeAddr s d off := rfl
  have hval : srcVal (s.withMem m) r = srcVal s r := rfl
  have hr0 : r0Val (s.withMem m) = r0Val s := rfl
  rw [haddr, hval, hr0]
  rcases atomicRmw_withMem hag (storeAddr s d off) n (fun old => if cmp old (r0Val s) then srcVal s r else old) with
    ⟨e, h, h'⟩ | ⟨old, v, h, h'⟩
  · rw [h, h']
    exact .faults e
  · rw [h, h']
    exact .goesOn (advance (writeReg (storeAt s _ n v) .r0 old) 1) (Memory.blindWrite_putBytes _ _) rfl

/-! ### Instructions and steps -/

/-- Every instruction but a helper call is isolated from the closed bytes. -/
theorem exec_sameNext (hag : AgreesOnReachable s m) {i : Instr} (hc : callsHelper i = false) :
    SameNext s m (exec i s) (exec i (s.withMem m)) := by
  unfold exec
  cases i with
  | add32K | sub32K | mul32K | div32K | sdiv32K | or32K | and32K | lsh32K | rsh32K | mod32K | smod32K | xor32K
  | arsh32K | add32X | sub32X | mul32X | div32X | sdiv32X | or32X | and32X | lsh32X | rsh32X | mod32X | smod32X
  | xor32X | arsh32X | neg32 | mov32K | mov32X | movsx32From8 | movsx32From16
  | add64K | sub64K | mul64K | div64K | sdiv64K | or64K | and64K | lsh64K | rsh64K | mod64K | smod64K | xor64K
  | arsh64K | add64X | sub64X | mul64X | div64X | sdiv64X | or64X | and64X | lsh64X | rsh64X | mod64X | smod64X
  | xor64X | arsh64X | neg64 | mov64K | mov64X | movsx64From8 | movsx64From16 | movsx64From32
  | le16 | le32 | le64 | be16 | be32 | be64 | bswap16 | bswap32 | bswap64 => exact writeResult_sameNext _ _ _
  | ja | ja32 => exact jumpBy_sameNext _
  | jeq64K | jgt64K | jge64K | jset64K | jne64K | jsgt64K | jsge64K | jlt64K | jle64K | jslt64K | jsle64K
  | jeq64X | jgt64X | jge64X | jset64X | jne64X | jsgt64X | jsge64X | jlt64X | jle64X | jslt64X | jsle64X
  | jeq32K | jgt32K | jge32K | jset32K | jne32K | jsgt32K | jsge32K | jlt32K | jle32K | jslt32K | jsle32K
  | jeq32X | jgt32X | jge32X | jset32X | jne32X | jsgt32X | jsge32X | jlt32X | jle32X | jslt32X | jsle32X =>
    exact jumpIf_sameNext _ _ _
  | callHelper | callBtf => cases hc
  | callLocal => exact callLocal_sameNext _
  | exit => exact exitOrReturn_sameNext
  | ldxB | ldxH | ldxW | ldxDw | ldxsB | ldxsH | ldxsW => exact load_sameNext hag _ _ _ _ _
  | stB | stH | stW | stDw | stxB | stxH | stxW | stxDw => exact store_sameNext _ _ _ _
  | atomic32Add | atomic32Or | atomic32And | atomic32Xor | atomic64Add | atomic64Or | atomic64And | atomic64Xor =>
    exact atomicPlain_sameNext hag _ _ _ _ _
  | atomic32FetchAdd | atomic32FetchOr | atomic32FetchAnd | atomic32FetchXor | atomic32Xchg | atomic64FetchAdd
  | atomic64FetchOr | atomic64FetchAnd | atomic64FetchXor | atomic64Xchg =>
    exact atomicFetch_sameNext hag _ _ _ _ _
  | atomic32Cmpxchg | atomic64Cmpxchg => exact atomicCmpxchg_sameNext hag _ _ _ _ _
  | ldImm64 => exact loadImmediate_sameNext _ _
  | ldMapFd | ldMapValFd | ldVarAddr | ldCodeAddr | ldMapIdx | ldMapValIdx => exact writeObject_sameNext _ _ _ _
  | ldAbsW | ldAbsH | ldAbsB | ldIndW | ldIndH | ldIndB => exact raise_sameNext _

theorem SameNext.bumpOutcome {o o' : Host.Outcome State Fault Refusal} (h : SameNext s m o o') :
    SameNext s m (Machine.bumpOutcome o) (Machine.bumpOutcome o') := by
  obtain ⟨t, w, hw, ht, rfl, rfl⟩ := h
  exact ⟨bump t, w, hw, ht, rfl, rfl⟩

/-- A running state steps alike whatever lies in the closed bytes, unless the step is a helper call. -/
theorem step_sameNext (hag : AgreesOnReachable s m) (hs : s.status = .running)
    (hc : ∀ i, fetch s = .ok i → callsHelper i = false) : SameNext s m (step s) (step (s.withMem m)) := by
  have hs' : (s.withMem m).status = .running := hs
  cases hf : fetch s with
  | error f =>
    rw [step_of_fetch_error hs hf, step_of_fetch_error hs' hf]
    exact (raise_sameNext f).bumpOutcome
  | ok i =>
    have hstep : step s = bumpOutcome (exec i s) := by simp [step, hs, hf]
    have hstep' : step (s.withMem m) = bumpOutcome (exec i (s.withMem m)) := by
      simp [step, hs', fetch_withMem, hf]
    rw [hstep, hstep']
    exact (exec_sameNext hag (hc i hf)).bumpOutcome

end SameNext

theorem running_of_step_next {s t : State} (h : step s = .next t) : s.status = .running := by
  unfold step at h
  split at h
  · assumption
  · cases h
  · cases h

/-- Settles O57: the step writes both memories blindly. -/
theorem unadmittedBytesDoNotMatter : Obligations.UnadmittedBytesDoNotMatter := by
  intro s t m hc hag h
  obtain ⟨u, w, hw, hu, hnext, hnext'⟩ := step_sameNext hag (running_of_step_next h) hc
  obtain rfl : u = t := Host.Outcome.next.inj (hnext.symm.trans h)
  exact ⟨w m, hnext', fun a => by rw [hu]; exact hw.get? s.mem m a⟩

theorem openByte_of_reachable {s : State} {a : Nat} (h : reachable s .read a ∨ reachable s .atomic a) :
    openByte s a := by
  rcases h with ⟨g, hg, hk, -, ha⟩ | ⟨g, hg, hk, -, ha⟩
  · exact ⟨g, hg, .inl hk, ha⟩
  · exact ⟨g, hg, .inr hk, ha⟩

/-- Settles O60: reachable bytes are open, and what is open depends on the configuration, which no step changes; so
one isolated step gives the relation back. -/
theorem stepsKeepAgreementOnOpenBytes : Obligations.StepsKeepAgreementOnOpenBytes := by
  rintro s s' t ⟨heq, hag⟩ hc h
  obtain ⟨m, hnext, hbytes⟩ :=
    unadmittedBytesDoNotMatter s t s'.mem hc (fun a ha => hag a (openByte_of_reachable ha)) h
  obtain ⟨-, hcfg, -⟩ := stepKeepsProgramAndConfiguration s t h
  refine ⟨{ t with mem := m }, ?_, rfl, fun a ha => ?_⟩
  · rw [heq]
    exact hnext
  · rw [openByte, hcfg] at ha
    exact (hbytes a).1 (hag a ha)

end Sys2Proof.Machine

/-! PROOFS. Faithful decoding: what strict decoding accepts is the encoding of its answer, and lenient decoding is
strict decoding of the encoding with its unused fields cleared (30_encoding.md R76, R80, R86). Each part of the decoder
is shown faithful once, then each class, then the whole. -/

namespace Sys2Proof

/-! ### Opcode bytes from their parts -/

/-- The opcode byte of an arithmetic or jump instruction (30_encoding.md R63, R69). -/
def codeOpcode (cls code : Nat) (x : Bool) : BitVec 8 := BitVec.ofNat 8 (16 * code + 8 * x.toNat + cls)

/-- The opcode byte of a load or store instruction (30_encoding.md R63, R71). -/
def modeOpcode (cls mode size : Nat) : BitVec 8 := BitVec.ofNat 8 (32 * mode + 8 * size + cls)

theorem Fields.opcode_eq_codeOpcode (f : Fields) : f.opcode = codeOpcode f.cls f.code f.sourceX := by
  unfold Fields.cls Fields.code Fields.sourceX
  generalize f.opcode = op
  revert op
  decide

theorem Fields.opcode_eq_modeOpcode (f : Fields) : f.opcode = modeOpcode f.cls f.mode f.size := by
  unfold Fields.cls Fields.mode Fields.size
  generalize f.opcode = op
  revert op
  decide

theorem Fields.opcode_of_code {f : Fields} {c n : Nat} {x : Bool} (hc : f.cls = c) (hn : f.code = n)
    (hx : f.sourceX = x) : f.opcode = codeOpcode c n x := by
  rw [f.opcode_eq_codeOpcode, hc, hn, hx]

theorem Fields.opcode_of_mode {f : Fields} {c m z : Nat} (hc : f.cls = c) (hm : f.mode = m) (hz : f.size = z) :
    f.opcode = modeOpcode c m z := by
  rw [f.opcode_eq_modeOpcode, hc, hm, hz]

/-! ### Which fields the cleared encoding keeps -/

section Cleared

variable {f : Fields}

theorem Fields.cleared_dst (h : f.unused.dst = false) : f.cleared.dst = f.dst := by simp [Fields.cleared, h]
theorem Fields.cleared_src (h : f.unused.src = false) : f.cleared.src = f.src := by simp [Fields.cleared, h]
theorem Fields.cleared_offset (h : f.unused.offset = false) : f.cleared.offset = f.offset := by
  simp [Fields.cleared, h]
theorem Fields.cleared_imm (h : f.unused.imm = false) : f.cleared.imm = f.imm := by simp [Fields.cleared, h]

theorem Fields.cleared_offset_zero (h : f.unused.offset = true) : f.cleared.offset = 0#16 := by
  simp [Fields.cleared, h]

theorem Fields.cleared_eq_self_iff :
    f.cleared = f ↔ (f.unused.dst = true → f.dst = 0#4) ∧ (f.unused.src = true → f.src = 0#4) ∧
      (f.unused.offset = true → f.offset = 0#16) ∧ (f.unused.imm = true → f.imm = 0#32) := by
  conv_lhs => rhs; rw [← show Fields.mk f.opcode f.dst f.src f.offset f.imm = f from rfl]
  simp only [Fields.cleared, Fields.mk.injEq, true_and, ite_eq_right_iff, @eq_comm _ 0#4,
    @eq_comm _ 0#16, @eq_comm _ 0#32]

end Cleared

/-! ### What the parts of the decoder accept -/

section Accepts

variable {strict z : Bool} {f : Fields} {i : Instr}

theorem needUnused_ok {k : Decoded} (h : needUnused strict z k = .ok i) : (strict = true → z = true) ∧ k = .ok i := by
  unfold needUnused at h
  split at h
  case isTrue hc => exact ⟨fun hs => by simpa [hs] using hc, h⟩
  case isFalse => cases h

theorem withDst_ok {k : Reg → Decoded} (h : withDst f k = .ok i) : ∃ d, d.num = f.dst ∧ k d = .ok i := by
  unfold withDst at h
  split at h
  case h_1 d hd => exact ⟨d, num_of_decodeReg hd, h⟩
  case h_2 => cases h

theorem withSrc_ok {k : Reg → Decoded} (h : withSrc f k = .ok i) : ∃ s, s.num = f.src ∧ k s = .ok i := by
  unfold withSrc at h
  split at h
  case h_1 s hs => exact ⟨s, num_of_decodeReg hs, h⟩
  case h_2 => cases h

end Accepts

/-! ### Faithful decoding

The three answers compared are those of strict decoding, of lenient decoding, and of strict decoding of the cleared
encoding. -/

/-- What strict decoding accepts is a clean encoding of its answer; lenient decoding answers as strict decoding
answers for the cleared encoding, and as strict decoding answers but for a non-zero unused field. -/
structure Faithful (f : Fields) (strict lenient cleared : Decoded) : Prop where
  encodes : ∀ i, strict = .ok i → (encodeFields i).first = f
  clean : ∀ i, strict = .ok i → f.cleared = f
  lenient_eq : lenient = cleared
  relaxed : strict ≠ .error .unusedField → lenient = strict

namespace Faithful

variable {f : Fields}

theorem refused (e : DecodeError) : Faithful f (.error e) (.error e) (.error e) :=
  ⟨fun _ h => (by cases h), fun _ h => (by cases h), rfl, fun _ => rfl⟩

theorem ite {p : Prop} [Decidable p] {a b c a' b' c' : Decoded} (h : p → Faithful f a b c)
    (h' : ¬p → Faithful f a' b' c') :
    Faithful f (if p then a else a') (if p then b else b') (if p then c else c') := by
  by_cases hp : p
  · simpa only [if_pos hp] using h hp
  · simpa only [if_neg hp] using h' hp

/-- A check of unused fields: it passes on the cleared encoding, and what follows it is faithful where it passes. -/
theorem checked {z z' : Bool} {a b c : Decoded} (hz' : z' = true) (hbc : b = c) (h : z = true → Faithful f a b c) :
    Faithful f (needUnused true z a) (needUnused false z b) (needUnused true z' c) := by
  subst hz'
  cases z with
  | true => exact h rfl
  | false => exact ⟨fun _ h => (by cases h), fun _ h => (by cases h), hbc, fun hs => absurd rfl hs⟩

/-- A check of unused fields before a body that reads none of them. -/
theorem body {z z' : Bool} {k k' : Decoded} (hz' : z' = true) (hk : k = k') (hclean : z = true → f.cleared = f)
    (he : ∀ i, k = .ok i → (encodeFields i).first = f.cleared) :
    Faithful f (needUnused true z k) (needUnused false z k) (needUnused true z' k') :=
  checked hz' hk fun hz => ⟨fun i h => (he i h).trans (hclean hz), fun _ _ => hclean hz, hk, fun _ => rfl⟩

end Faithful

/-! ### The forms

The unused fields are given in the order `dst`, `src`, `offset`, `imm`. -/

section Forms

variable {f : Fields}

theorem formK_faithful {k k' : Reg → Word32 → Instr} (hu : f.unused = ⟨false, true, false, false⟩) (hk : k' = k)
    (he : ∀ d imm, (encodeFields (k d imm)).first = ⟨f.opcode, d.num, 0#4, f.offset, imm⟩) :
    Faithful f (formK true f k) (formK false f k) (formK true f.cleared k') := by
  subst hk
  refine .body (by simp [Fields.cleared, hu]) (by simp [withDst, Fields.cleared, hu])
    (by simp [Fields.cleared_eq_self_iff, hu]) fun i h => ?_
  obtain ⟨d, hd, h⟩ := withDst_ok h
  cases h
  simp [he, hd, Fields.cleared, hu]

theorem formX_faithful {x x' : Reg → Reg → Instr} (hu : f.unused = ⟨false, false, false, true⟩) (hx : x' = x)
    (he : ∀ d s, (encodeFields (x d s)).first = ⟨f.opcode, d.num, s.num, f.offset, 0#32⟩) :
    Faithful f (formX true f x) (formX false f x) (formX true f.cleared x') := by
  subst hx
  refine .body (by simp [Fields.cleared, hu]) (by simp [withDst, withSrc, Fields.cleared, hu])
    (by simp [Fields.cleared_eq_self_iff, hu]) fun i h => ?_
  obtain ⟨d, hd, h⟩ := withDst_ok h
  obtain ⟨s, hs, h⟩ := withSrc_ok h
  cases h
  simp [he, hd, hs, Fields.cleared, hu]

end Forms

section CodeForms

variable {f : Fields} {c n : Nat} (hc : f.cls = c) (hn : f.code = n) (hu : f.unused = unusedKX f)
include hc hn hu

theorem formKX_faithful {off : Word16} {k k' : Reg → Word32 → Instr} {x x' : Reg → Reg → Instr}
    (ho : f.offset = off) (hk : k' = k) (hx : x' = x)
    (hek : ∀ d imm, encodeFields (k d imm) = encBasic (codeOpcode c n false) d.num 0#4 off imm)
    (hex : ∀ d s, encodeFields (x d s) = encBasic (codeOpcode c n true) d.num s.num off 0#32) :
    Faithful f (formKX true f k x) (formKX false f k x) (formKX true f.cleared k' x') := by
  refine .ite (fun hX => formX_faithful ?_ hx fun d s => ?_) (fun hX => formK_faithful ?_ hk fun d imm => ?_)
  · simp [hu, unusedKX, hX]
  · rw [hex, Fields.opcode_of_code hc hn hX, ho]; rfl
  · simp [hu, unusedKX, hX]
  · rw [hek, Fields.opcode_of_code hc hn (Bool.eq_false_iff.2 hX), ho]; rfl

theorem arith_faithful {k : Reg → Word32 → Instr} {x : Reg → Reg → Instr}
    (hek : ∀ d imm, encodeFields (k d imm) = encBasic (codeOpcode c n false) d.num 0#4 0#16 imm)
    (hex : ∀ d s, encodeFields (x d s) = encBasic (codeOpcode c n true) d.num s.num 0#16 0#32) :
    Faithful f (arith true f k x) (arith false f k x) (arith true f.cleared k x) := by
  simp only [arith, Fields.cleared_offset (f := f) (by rw [hu]; rfl)]
  exact .ite (fun ho => formKX_faithful hc hn hu ho rfl rfl hek hex) fun _ => .refused _

theorem arithSigned_faithful {k sk : Reg → Word32 → Instr} {x sx : Reg → Reg → Instr}
    (hek : ∀ d imm, encodeFields (k d imm) = encBasic (codeOpcode c n false) d.num 0#4 0#16 imm)
    (hex : ∀ d s, encodeFields (x d s) = encBasic (codeOpcode c n true) d.num s.num 0#16 0#32)
    (hesk : ∀ d imm, encodeFields (sk d imm) = encBasic (codeOpcode c n false) d.num 0#4 1#16 imm)
    (hesx : ∀ d s, encodeFields (sx d s) = encBasic (codeOpcode c n true) d.num s.num 1#16 0#32) :
    Faithful f (arithSigned true f k x sk sx) (arithSigned false f k x sk sx)
      (arithSigned true f.cleared k x sk sx) := by
  simp only [arithSigned, Fields.cleared_offset (f := f) (by rw [hu]; rfl)]
  exact .ite (fun ho => formKX_faithful hc hn hu ho rfl rfl hek hex) fun _ =>
    .ite (fun ho => formKX_faithful hc hn hu ho rfl rfl hesk hesx) fun _ => .refused _

theorem condJump_faithful {k : Reg → Word32 → Word16 → Instr} {x : Reg → Reg → Word16 → Instr}
    (hek : ∀ d imm off, encodeFields (k d imm off) = encBasic (codeOpcode c n false) d.num 0#4 off imm)
    (hex : ∀ d s off, encodeFields (x d s off) = encBasic (codeOpcode c n true) d.num s.num off 0#32) :
    Faithful f (condJump true f k x) (condJump false f k x) (condJump true f.cleared k x) := by
  simp only [condJump, Fields.cleared_offset (f := f) (by rw [hu]; rfl)]
  exact formKX_faithful hc hn hu rfl rfl rfl (fun _ _ => hek _ _ _) fun _ _ => hex _ _ _

/-- A sign-extending move: the `X` form with its width for `offset`. -/
theorem movsx_faithful {off : Word16} {x : Reg → Reg → Instr} (hX : (f.sourceX && f.offset == off) = true)
    (hex : ∀ d s, encodeFields (x d s) = encBasic (codeOpcode c n true) d.num s.num off 0#32) :
    Faithful f (formX true f x) (formX false f x) (formX true f.cleared x) := by
  obtain ⟨hX, ho⟩ := Bool.and_eq_true_iff.1 hX
  refine formX_faithful (by simp [hu, unusedKX, hX]) rfl fun d s => ?_
  rw [hex, Fields.opcode_of_code hc hn hX, beq_iff_eq.1 ho]; rfl

end CodeForms

section AluForms

variable {f : Fields} {c n : Nat} (hc : f.cls = c) (hn : f.code = n)
include hc hn

theorem negate_faithful {mk : Reg → Instr} (hu : f.unused = ⟨false, true, false, true⟩)
    (he : ∀ d, encodeFields (mk d) = encBasic (codeOpcode c n false) d.num 0#4 0#16 0#32) :
    Faithful f (negate true f mk) (negate false f mk) (negate true f.cleared mk) := by
  simp only [negate, Fields.cleared_sourceX, Fields.cleared_opcode, Fields.cleared_offset (f := f) (by rw [hu])]
  refine .ite (fun _ => .refused _) fun hX => .ite (fun ho => ?_) fun _ => .refused _
  have hop := Fields.opcode_of_code hc hn (Bool.eq_false_iff.2 hX)
  refine .body (by simp [Fields.cleared, hu]) (by simp [withDst, Fields.cleared, hu])
    (by simp [Fields.cleared_eq_self_iff, hu]) fun i h => ?_
  obtain ⟨d, hd, h⟩ := withDst_ok h
  cases h
  simp [he, encBasic, hd, Fields.cleared, hu, ho, hop]

theorem swap_faithful {x : Bool} {w16 w32 w64 : Reg → Instr} (hu : f.unused = ⟨false, true, false, false⟩)
    (hX : f.sourceX = x)
    (he16 : ∀ d, encodeFields (w16 d) = encBasic (codeOpcode c n x) d.num 0#4 0#16 16#32)
    (he32 : ∀ d, encodeFields (w32 d) = encBasic (codeOpcode c n x) d.num 0#4 0#16 32#32)
    (he64 : ∀ d, encodeFields (w64 d) = encBasic (codeOpcode c n x) d.num 0#4 0#16 64#32) :
    Faithful f (swap true f w16 w32 w64) (swap false f w16 w32 w64) (swap true f.cleared w16 w32 w64) := by
  simp only [swap, Fields.cleared_offset (f := f) (by rw [hu])]
  refine .ite (fun ho => ?_) fun _ => .refused _
  have hop := Fields.opcode_of_code hc hn hX
  refine .body (by simp [Fields.cleared, hu]) (by simp [withDst, Fields.cleared, hu])
    (by simp [Fields.cleared_eq_self_iff, hu]) fun i h => ?_
  obtain ⟨d, hd, h⟩ := withDst_ok h
  split_ifs at h with h16 h32 h64 <;> cases h
  · simp [he16, encBasic, hd, Fields.cleared, hu, ho, hop, h16]
  · simp [he32, encBasic, hd, Fields.cleared, hu, ho, hop, h32]
  · simp [he64, encBasic, hd, Fields.cleared, hu, ho, hop, h64]

end AluForms

/-! ### Classes ALU and ALU64 -/

theorem decodeAlu32_faithful {f : Fields} (hc : f.cls = 4) :
    Faithful f (decodeAlu32 true f) (decodeAlu32 false f) (decodeAlu32 true f.cleared) := by
  have hu : f.unused = unusedAlu f := by simp [Fields.unused, hc]
  simp only [decodeAlu32, Fields.cleared_code, Fields.cleared_sourceX, Fields.cleared_opcode]
  generalize hn : f.code = n
  split
  -- DIV and MOD, NEG, MOV and MOVSX, the byte swaps, and the codes without an operation.
  case h_4 | h_10 => apply arithSigned_faithful hc hn (by simp [hu, unusedAlu, hn]) <;> (intros; rfl)
  case h_9 => exact negate_faithful hc hn (by simp [hu, unusedAlu, hn]) fun _ => rfl
  case h_12 =>
    have hu : f.unused = unusedKX f := by simp [hu, unusedAlu, hn]
    rw [Fields.cleared_offset (by rw [hu]; rfl)]
    exact .ite (fun ho => formKX_faithful hc hn hu ho rfl rfl (fun _ _ => rfl) fun _ _ => rfl) fun _ =>
      .ite (fun hX => movsx_faithful hc hn hu hX fun _ _ => rfl) fun _ =>
      .ite (fun hX => movsx_faithful hc hn hu hX fun _ _ => rfl) fun _ => .refused _
  case h_14 =>
    have hu : f.unused = ⟨false, true, false, false⟩ := by simp [hu, unusedAlu, hn]
    exact .ite (fun hX => swap_faithful hc hn hu hX (fun _ => rfl) (fun _ => rfl) fun _ => rfl) fun hX =>
      swap_faithful hc hn hu (Bool.eq_false_iff.2 hX) (fun _ => rfl) (fun _ => rfl) fun _ => rfl
  case h_15 => exact .refused _
  all_goals apply arith_faithful hc hn (by simp [hu, unusedAlu, hn]) <;> (intros; rfl)

theorem decodeAlu64_faithful {f : Fields} (hc : f.cls = 7) :
    Faithful f (decodeAlu64 true f) (decodeAlu64 false f) (decodeAlu64 true f.cleared) := by
  have hu : f.unused = unusedAlu f := by simp [Fields.unused, hc]
  simp only [decodeAlu64, Fields.cleared_code, Fields.cleared_sourceX, Fields.cleared_opcode]
  generalize hn : f.code = n
  split
  -- DIV and MOD, NEG, MOV and MOVSX, the byte swaps, and the codes without an operation.
  case h_4 | h_10 => apply arithSigned_faithful hc hn (by simp [hu, unusedAlu, hn]) <;> (intros; rfl)
  case h_9 => exact negate_faithful hc hn (by simp [hu, unusedAlu, hn]) fun _ => rfl
  case h_12 =>
    have hu : f.unused = unusedKX f := by simp [hu, unusedAlu, hn]
    rw [Fields.cleared_offset (by rw [hu]; rfl)]
    exact .ite (fun ho => formKX_faithful hc hn hu ho rfl rfl (fun _ _ => rfl) fun _ _ => rfl) fun _ =>
      .ite (fun hX => movsx_faithful hc hn hu hX fun _ _ => rfl) fun _ =>
      .ite (fun hX => movsx_faithful hc hn hu hX fun _ _ => rfl) fun _ =>
      .ite (fun hX => movsx_faithful hc hn hu hX fun _ _ => rfl) fun _ => .refused _
  case h_14 =>
    exact .ite (fun _ => .refused _) fun hX => swap_faithful hc hn (by simp [hu, unusedAlu, hn])
      (Bool.eq_false_iff.2 hX) (fun _ => rfl) (fun _ => rfl) fun _ => rfl
  case h_15 => exact .refused _
  all_goals apply arith_faithful hc hn (by simp [hu, unusedAlu, hn]) <;> (intros; rfl)

/-! ### Classes JMP and JMP32 -/

section Jumps

variable {f : Fields}

/-- An instruction with no register operand. -/
theorem fixed_faithful {z z' : Bool} {i i' : Instr} (hz' : z' = true) (hi : i = i')
    (hclean : z = true → f.cleared = f) (he : (encodeFields i).first = f.cleared) :
    Faithful f (needUnused true z (.ok i)) (needUnused false z (.ok i)) (needUnused true z' (.ok i')) :=
  .body hz' (congrArg _ hi) hclean fun _ h => by cases h; exact he

theorem decodeCall_faithful (hop : f.opcode = 0x85#8) (hu : f.unused = ⟨true, false, true, false⟩) :
    Faithful f (decodeCall true f) (decodeCall false f) (decodeCall true f.cleared) := by
  have hsub {n : BitVec 4} {i i' : Instr} (hn : f.src = n) (hi : i = i')
      (he : encodeFields i = encBasic 0x85#8 0#4 n 0#16 f.imm) :
      Faithful f (needUnused true (f.dst == 0#4 && f.offset == 0#16) (.ok i))
        (needUnused false (f.dst == 0#4 && f.offset == 0#16) (.ok i))
        (needUnused true (f.cleared.dst == 0#4 && f.cleared.offset == 0#16) (.ok i')) :=
    fixed_faithful (by simp [Fields.cleared, hu]) hi (by simp +contextual [Fields.cleared_eq_self_iff, hu])
      (by simp [he, encBasic, Fields.cleared, hu, hop, hn])
  simp only [decodeCall, Fields.cleared_src (f := f) (by rw [hu]), Fields.cleared_imm (f := f) (by rw [hu])]
  split
  case h_1 hn => exact hsub (n := 0#4) (BitVec.eq_of_toNat_eq hn) rfl rfl
  case h_2 hn => exact hsub (n := 1#4) (BitVec.eq_of_toNat_eq hn) rfl rfl
  case h_3 hn => exact hsub (n := 2#4) (BitVec.eq_of_toNat_eq hn) rfl rfl
  case h_4 => exact .refused _

theorem decodeJmp_faithful (hc : f.cls = 5) :
    Faithful f (decodeJmp true f) (decodeJmp false f) (decodeJmp true f.cleared) := by
  have hu : f.unused = unusedJmp f := by simp [Fields.unused, hc]
  simp only [decodeJmp, Fields.cleared_code, Fields.cleared_sourceX, Fields.cleared_opcode]
  generalize hn : f.code = n
  split
  -- JA, CALL, EXIT, and the codes without an operation; the others are conditional jumps.
  case h_1 =>
    have hu : f.unused = ⟨true, false, false, true⟩ := by simp [hu, unusedJmp, hn]
    rw [Fields.cleared_src (by rw [hu])]
    refine .ite (fun _ => .refused _) fun hX => .ite (fun hs => ?_) fun _ => .refused _
    have hop : f.opcode = 0x05#8 := Fields.opcode_of_code hc hn (Bool.eq_false_iff.2 hX)
    exact fixed_faithful (by simp [Fields.cleared, hu]) (by simp [Fields.cleared, hu])
      (by simp +contextual [Fields.cleared_eq_self_iff, hu])
      (by simp [encodeFields, encBasic, Fields.cleared, hu, hop, hs])
  case h_9 =>
    exact .ite (fun _ => .refused _) fun hX => decodeCall_faithful
      (Fields.opcode_of_code hc hn (Bool.eq_false_iff.2 hX)) (by simp [hu, unusedJmp, hn])
  case h_10 =>
    have hu : f.unused = ⟨true, false, true, true⟩ := by simp [hu, unusedJmp, hn]
    rw [Fields.cleared_src (by rw [hu])]
    refine .ite (fun _ => .refused _) fun hX => .ite (fun hs => ?_) fun _ => .refused _
    have hop : f.opcode = 0x95#8 := Fields.opcode_of_code hc hn (Bool.eq_false_iff.2 hX)
    exact fixed_faithful (by simp [Fields.cleared, hu]) rfl
      (by simp +contextual [Fields.cleared_eq_self_iff, hu])
      (by simp [encodeFields, encBasic, Fields.cleared, hu, hop, hs])
  case h_15 => exact .refused _
  all_goals apply condJump_faithful hc hn (by simp [hu, unusedJmp, hn]) <;> (intros; rfl)

theorem decodeJmp32_faithful (hc : f.cls = 6) :
    Faithful f (decodeJmp32 true f) (decodeJmp32 false f) (decodeJmp32 true f.cleared) := by
  have hu : f.unused = unusedJmp32 f := by simp [Fields.unused, hc]
  simp only [decodeJmp32, Fields.cleared_code, Fields.cleared_sourceX, Fields.cleared_opcode]
  generalize hn : f.code = n
  split
  -- JA32, and the codes without an operation; the others are conditional jumps.
  case h_1 =>
    have hu : f.unused = ⟨true, false, true, false⟩ := by simp [hu, unusedJmp32, hn]
    rw [Fields.cleared_src (by rw [hu])]
    refine .ite (fun _ => .refused _) fun hX => .ite (fun hs => ?_) fun _ => .refused _
    have hop : f.opcode = 0x06#8 := Fields.opcode_of_code hc hn (Bool.eq_false_iff.2 hX)
    exact fixed_faithful (by simp [Fields.cleared, hu]) (by simp [Fields.cleared, hu])
      (by simp +contextual [Fields.cleared_eq_self_iff, hu])
      (by simp [encodeFields, encBasic, Fields.cleared, hu, hop, hs])
  case h_13 => exact .refused _
  all_goals apply condJump_faithful hc hn (by simp [hu, unusedJmp32, hn]) <;> (intros; rfl)

end Jumps

/-! ### Classes LDX, ST and STX -/

section Memory

variable {f : Fields} {c m z : Nat} (hc : f.cls = c) (hm : f.mode = m) (hz : f.size = z)
include hc hm hz

theorem loadStore_faithful {mk : Reg → Reg → Word16 → Instr} (hu : f.unused = ⟨false, false, false, true⟩)
    (he : ∀ d s off, encodeFields (mk d s off) = encBasic (modeOpcode c m z) d.num s.num off 0#32) :
    Faithful f (loadStore true f mk) (loadStore false f mk) (loadStore true f.cleared mk) :=
  formX_faithful hu (by rw [Fields.cleared_offset (by rw [hu])]) fun d s => by
    rw [he, Fields.opcode_of_mode hc hm hz]; rfl

theorem storeImm_faithful {mk : Reg → Word32 → Word16 → Instr} (hu : f.unused = ⟨false, true, false, false⟩)
    (he : ∀ d imm off, encodeFields (mk d imm off) = encBasic (modeOpcode c m z) d.num 0#4 off imm) :
    Faithful f (storeImm true f mk) (storeImm false f mk) (storeImm true f.cleared mk) :=
  formK_faithful hu (by rw [Fields.cleared_offset (by rw [hu])]) fun d imm => by
    rw [he, Fields.opcode_of_mode hc hm hz]; rfl

end Memory

/-- The atomic operations of one width and the `imm` that selects each (45_atomic.md R280). -/
def atomicTable (add fetchAdd or fetchOr and fetchAnd xor fetchXor xchg cmpxchg : Reg → Reg → Word16 → Instr) :
    List ((Reg → Reg → Word16 → Instr) × Word32) :=
  [(add, 0x00#32), (fetchAdd, 0x01#32), (or, 0x40#32), (fetchOr, 0x41#32), (and, 0x50#32), (fetchAnd, 0x51#32),
    (xor, 0xa0#32), (fetchXor, 0xa1#32), (xchg, 0xe1#32), (cmpxchg, 0xf1#32)]

theorem atomic_ok {f : Fields} {i : Instr}
    {add fetchAdd or fetchOr and fetchAnd xor fetchXor xchg cmpxchg : Reg → Reg → Word16 → Instr}
    (h : atomic f add fetchAdd or fetchOr and fetchAnd xor fetchXor xchg cmpxchg = .ok i) :
    ∃ d s mk, d.num = f.dst ∧ s.num = f.src ∧ i = mk d s f.offset ∧
      (mk, f.imm) ∈ atomicTable add fetchAdd or fetchOr and fetchAnd xor fetchXor xchg cmpxchg := by
  obtain ⟨d, hd, h⟩ := withDst_ok h
  obtain ⟨s, hs, h⟩ := withSrc_ok h
  split at h
  case h_11 => cases h
  all_goals
    cases h
    exact ⟨d, s, _, hd, hs, rfl, by simp [atomicTable, BitVec.toNat_eq, ‹f.imm.toNat = _›]⟩

/-- An atomic operation has no unused field. -/
theorem atomic_faithful {f : Fields} {c m z : Nat} (hc : f.cls = c) (hm : f.mode = m) (hz : f.size = z)
    (hu : f.unused = ⟨false, false, false, false⟩)
    {add fetchAdd or fetchOr and fetchAnd xor fetchXor xchg cmpxchg : Reg → Reg → Word16 → Instr}
    (he : ∀ p ∈ atomicTable add fetchAdd or fetchOr and fetchAnd xor fetchXor xchg cmpxchg,
      ∀ d s off, encodeFields (p.1 d s off) = encBasic (modeOpcode c m z) d.num s.num off p.2) :
    Faithful f (atomic f add fetchAdd or fetchOr and fetchAnd xor fetchXor xchg cmpxchg)
      (atomic f add fetchAdd or fetchOr and fetchAnd xor fetchXor xchg cmpxchg)
      (atomic f.cleared add fetchAdd or fetchOr and fetchAnd xor fetchXor xchg cmpxchg) := by
  have hclean : f.cleared = f := by simp [Fields.cleared_eq_self_iff, hu]
  rw [hclean]
  refine ⟨fun i h => ?_, fun _ _ => hclean, rfl, fun _ => rfl⟩
  obtain ⟨d, s, mk, hd, hs, rfl, hmem⟩ := atomic_ok h
  rw [he _ hmem, hd, hs, ← Fields.opcode_of_mode hc hm hz]; rfl

theorem decodeLdx_faithful {f : Fields} (hc : f.cls = 1) :
    Faithful f (decodeLdx true f) (decodeLdx false f) (decodeLdx true f.cleared) := by
  have hu : f.unused = ⟨false, false, false, true⟩ := by simp [Fields.unused, hc]
  simp only [decodeLdx, Fields.cleared_mode, Fields.cleared_size, Fields.cleared_opcode]
  generalize hm : f.mode = m
  generalize hz : f.size = z
  split
  case h_8 => exact .refused _
  all_goals exact loadStore_faithful hc hm hz hu fun _ _ _ => rfl

theorem decodeSt_faithful {f : Fields} (hc : f.cls = 2) :
    Faithful f (decodeSt true f) (decodeSt false f) (decodeSt true f.cleared) := by
  have hu : f.unused = ⟨false, true, false, false⟩ := by simp [Fields.unused, hc]
  simp only [decodeSt, Fields.cleared_mode, Fields.cleared_size, Fields.cleared_opcode]
  generalize hm : f.mode = m
  generalize hz : f.size = z
  split
  case h_5 => exact .refused _
  all_goals exact storeImm_faithful hc hm hz hu fun _ _ _ => rfl

theorem decodeStx_faithful {f : Fields} (hc : f.cls = 3) :
    Faithful f (decodeStx true f) (decodeStx false f) (decodeStx true f.cleared) := by
  have hu : f.unused = ⟨false, false, false, f.mode != 6⟩ := by simp [Fields.unused, hc]
  simp only [decodeStx, Fields.cleared_mode, Fields.cleared_size, Fields.cleared_opcode]
  generalize hm : f.mode = m at hu
  generalize hz : f.size = z
  split
  case h_5 | h_6 =>
    refine atomic_faithful hc hm hz hu ?_
    simp only [atomicTable, List.forall_mem_cons, List.not_mem_nil, false_imp_iff, implies_true, and_true]
    and_intros <;> (intros; rfl)
  case h_7 => exact .refused _
  all_goals exact loadStore_faithful hc hm hz hu fun _ _ _ => rfl

/-! ### Class LD -/

section Load

variable {f : Fields} {m z : Nat} (hc : f.cls = 0) (hm : f.mode = m) (hz : f.size = z)
include hc hm hz

theorem packetAbs_faithful {mk : Word32 → Instr} (hu : f.unused = ⟨true, true, true, false⟩)
    (he : ∀ imm, encodeFields (mk imm) = encBasic (modeOpcode 0 m z) 0#4 0#4 0#16 imm) :
    Faithful f (packetAbs true f mk) (packetAbs false f mk) (packetAbs true f.cleared mk) :=
  fixed_faithful (by simp [Fields.cleared, hu]) (by simp [Fields.cleared, hu])
    (by simp +contextual [Fields.cleared_eq_self_iff, hu])
    (by simp [he, encBasic, Fields.cleared, hu, Fields.opcode_of_mode hc hm hz])

theorem packetInd_faithful {mk : Reg → Word32 → Instr} (hu : f.unused = ⟨true, false, true, false⟩)
    (he : ∀ s imm, encodeFields (mk s imm) = encBasic (modeOpcode 0 m z) 0#4 s.num 0#16 imm) :
    Faithful f (packetInd true f mk) (packetInd false f mk) (packetInd true f.cleared mk) := by
  refine .body (by simp [Fields.cleared, hu]) (by simp [withSrc, Fields.cleared, hu])
    (by simp +contextual [Fields.cleared_eq_self_iff, hu]) fun i h => ?_
  obtain ⟨s, hs, h⟩ := withSrc_ok h
  cases h
  simp [he, encBasic, hs, Fields.cleared, hu, Fields.opcode_of_mode hc hm hz]

end Load

/-! ### Wide instructions -/

section Wide

variable {f : Fields}

theorem unused_of_wide (hop : f.opcode = wideOpcode) : f.unused = ⟨false, false, true, false⟩ := by
  have hc : f.cls = 0 := by rw [Fields.cls, hop]; rfl
  have hm : f.mode = 0 := by rw [Fields.mode, hop]; rfl
  simp [Fields.unused, unusedLd, hc, hm]

/-- What a wide instruction is by its subtype (30_encoding.md R74), and what strict decoding asks of its two slots. -/
theorem decodeWide_ok {strict : Bool} {second : Option Fields} {i : Instr}
    (h : decodeWide strict f second = .ok i) :
    ∃ g d, second = some g ∧ d.num = f.dst ∧
      (strict = true → f.offset = 0#16 ∧ g.reservedZero = true ∧ (f.src.toNat ∈ [1, 3, 4, 5] → g.imm = 0#32)) ∧
      ((f.src = 0#4 ∧ i = .ldImm64 d f.imm g.imm) ∨ (f.src = 1#4 ∧ i = .ldMapFd d f.imm) ∨
        (f.src = 2#4 ∧ i = .ldMapValFd d f.imm g.imm) ∨ (f.src = 3#4 ∧ i = .ldVarAddr d f.imm) ∨
        (f.src = 4#4 ∧ i = .ldCodeAddr d f.imm) ∨ (f.src = 5#4 ∧ i = .ldMapIdx d f.imm) ∨
        (f.src = 6#4 ∧ i = .ldMapValIdx d f.imm g.imm)) := by
  unfold decodeWide at h
  split at h
  case h_1 => cases h
  case h_2 g =>
    obtain ⟨hz, h⟩ := needUnused_ok h
    obtain ⟨d, hd, h⟩ := withDst_ok h
    simp only [Bool.and_eq_true, beq_iff_eq] at hz
    refine ⟨g, d, rfl, hd, ?_⟩
    split at h
    case h_8 => cases h
    case h_2 | h_4 | h_5 | h_6 =>
      obtain ⟨hi, h⟩ := needUnused_ok h
      cases h
      exact ⟨fun hs => ⟨(hz hs).1, (hz hs).2, fun _ => beq_iff_eq.1 (hi hs)⟩,
        by simp [BitVec.toNat_eq, ‹f.src.toNat = _›]⟩
    all_goals
      cases h
      exact ⟨fun hs => ⟨(hz hs).1, (hz hs).2, by simp [‹f.src.toNat = _›]⟩,
        by simp [BitVec.toNat_eq, ‹f.src.toNat = _›]⟩

theorem encWide_eq {g : Fields} {d : Reg} {n : BitVec 4} (hop : f.opcode = wideOpcode) (hd : d.num = f.dst)
    (hn : f.src = n) (ho : f.offset = 0#16) (hg : g.reservedZero = true) :
    encWide n d f.imm g.imm = ⟨f, some g⟩ := by
  obtain ⟨op, dst, src, off, imm⟩ := f
  obtain ⟨op2, dst2, src2, off2, next⟩ := g
  simp_all [encWide, Fields.reservedZero]

/-- What strict decoding accepts as a wide instruction is the encoding of its answer, in both slots. -/
theorem decodeWide_encodes (hop : f.opcode = wideOpcode) {second : Option Fields} {i : Instr}
    (h : decodeWide true f second = .ok i) : encodeFields i = ⟨f, second⟩ := by
  obtain ⟨g, d, rfl, hd, hz, hi⟩ := decodeWide_ok h
  obtain ⟨ho, hg, hnext⟩ := hz rfl
  have henc {n : BitVec 4} (hs : f.src = n) : encWide n d f.imm g.imm = ⟨f, some g⟩ := encWide_eq hop hd hs ho hg
  have henc0 {n : BitVec 4} (hs : f.src = n) (hn : n.toNat ∈ [1, 3, 4, 5]) :
      encWide n d f.imm 0#32 = ⟨f, some g⟩ := by
    rw [← hnext (hs ▸ hn)]
    exact henc hs
  rcases hi with ⟨hs, rfl⟩ | ⟨hs, rfl⟩ | ⟨hs, rfl⟩ | ⟨hs, rfl⟩ | ⟨hs, rfl⟩ | ⟨hs, rfl⟩ | ⟨hs, rfl⟩
  · exact henc hs
  · exact henc0 hs (by decide)
  · exact henc hs
  · exact henc0 hs (by decide)
  · exact henc0 hs (by decide)
  · exact henc0 hs (by decide)
  · exact henc hs

/-- The second slot is read through `next_imm` alone, in the subtypes that have one. -/
theorem decodeWide_cleared (hop : f.opcode = wideOpcode) (second : Option Fields) :
    decodeWide false f second = decodeWide true f.cleared (second.map f.clearedSecond) := by
  have hu := unused_of_wide hop
  cases second with
  | none => rfl
  | some g =>
    simp only [decodeWide, Option.map_some, Fields.clearedSecond_reservedZero g hop, withDst,
      Fields.cleared_dst (f := f) (by rw [hu]), Fields.cleared_src (f := f) (by rw [hu]),
      Fields.cleared_imm (f := f) (by rw [hu]), Fields.cleared_offset_zero (f := f) (by rw [hu])]
    simp only [Fields.clearedSecond, hop]
    generalize hn : f.src.toNat = n
    split <;> simp [needUnused]
    split <;> simp

theorem decodeWide_clean (hop : f.opcode = wideOpcode) {second : Option Fields} {i : Instr}
    (h : decodeWide true f second = .ok i) : f.cleared = f ∧ second.map f.clearedSecond = second := by
  obtain ⟨g, d, rfl, -, hz, -⟩ := decodeWide_ok h
  obtain ⟨ho, hg, hnext⟩ := hz rfl
  refine ⟨by simp [Fields.cleared_eq_self_iff, unused_of_wide hop, ho], ?_⟩
  obtain ⟨op2, dst2, src2, off2, next⟩ := g
  simp_all [Fields.clearedSecond, Fields.reservedZero]

theorem needUnused_relaxed {z : Bool} {a b : Decoded} (h : needUnused true z a ≠ .error .unusedField)
    (hab : a ≠ .error .unusedField → b = a) : needUnused false z b = needUnused true z a := by
  cases z with
  | true => exact hab h
  | false => exact absurd rfl h

theorem withDst_relaxed {k k' : Reg → Decoded} (h : withDst f k ≠ .error .unusedField)
    (hk : ∀ d, k d ≠ .error .unusedField → k' d = k d) : withDst f k' = withDst f k := by
  unfold withDst at h ⊢
  generalize decodeReg f.dst = r at h ⊢
  cases r with
  | ok d => exact hk d h
  | error e => rfl

theorem decodeWide_relaxed {second : Option Fields} (h : decodeWide true f second ≠ .error .unusedField) :
    decodeWide false f second = decodeWide true f second := by
  cases second with
  | none => rfl
  | some g =>
    refine needUnused_relaxed h fun h => ?_
    refine withDst_relaxed h fun d h => ?_
    generalize f.src.toNat = n at h
    split
    case h_2 | h_4 | h_5 | h_6 => exact needUnused_relaxed h fun _ => rfl
    all_goals rfl

theorem decodeWide_faithful (hop : f.opcode = wideOpcode) (second : Option Fields) :
    Faithful f (decodeWide true f second) (decodeWide false f second)
      (decodeWide true f.cleared (second.map f.clearedSecond)) :=
  ⟨fun _ h => by rw [decodeWide_encodes hop h], fun _ h => (decodeWide_clean hop h).1,
    decodeWide_cleared hop second, decodeWide_relaxed⟩

end Wide

theorem decodeLd_faithful {f : Fields} (hc : f.cls = 0) (second : Option Fields) :
    Faithful f (decodeLd true f second) (decodeLd false f second)
      (decodeLd true f.cleared (second.map f.clearedSecond)) := by
  have hu : f.unused = unusedLd f := by simp [Fields.unused, hc]
  simp only [decodeLd, Fields.cleared_mode, Fields.cleared_size, Fields.cleared_opcode]
  generalize hm : f.mode = m
  generalize hz : f.size = z
  split
  case h_1 => exact decodeWide_faithful (Fields.opcode_of_mode hc hm hz) second
  case h_2 | h_3 | h_4 => exact packetAbs_faithful hc hm hz (by simp [hu, unusedLd, hm]) fun _ => rfl
  case h_5 | h_6 | h_7 => exact packetInd_faithful hc hm hz (by simp [hu, unusedLd, hm]) fun _ _ => rfl
  case h_8 => exact .refused _

/-! ### The whole decoder -/

theorem decodeFields_faithful (f : Fields) (second : Option Fields) :
    Faithful f (decodeFields true f second) (decodeFields false f second)
      (decodeFields true f.cleared (second.map f.clearedSecond)) := by
  simp only [decodeFields, Fields.cleared_cls]
  generalize hc : f.cls = c
  have hlt : c < 8 := hc ▸ BitVec.isLt _
  split
  case h_1 => exact decodeLd_faithful hc second
  case h_2 => exact decodeLdx_faithful hc
  case h_3 => exact decodeSt_faithful hc
  case h_4 => exact decodeStx_faithful hc
  case h_5 => exact decodeAlu32_faithful hc
  case h_6 => exact decodeJmp_faithful hc
  case h_7 => exact decodeJmp32_faithful hc
  case h_8 => exact decodeAlu64_faithful (by grind)

theorem decodeFields_wide {strict : Bool} {f : Fields} (hop : f.opcode = wideOpcode) (second : Option Fields) :
    decodeFields strict f second = decodeWide strict f second := by
  have hc : f.cls = 0 := by rw [Fields.cls, hop]; rfl
  have hm : f.mode = 0 := by rw [Fields.mode, hop]; rfl
  have hz : f.size = 3 := by rw [Fields.size, hop]; rfl
  simp only [decodeFields, decodeLd, hc, hm, hz]

/-- An instruction has a second slot just when its opcode byte is the wide one (30_encoding.md R67). -/
theorem isSome_second (i : Instr) :
    (encodeFields i).second.isSome = ((encodeFields i).first.opcode == wideOpcode) := by
  cases i <;> rfl

theorem encodeFields_of_decodeFields {f : Fields} {second : Option Fields} {i : Instr}
    (h : decodeFields true f second = .ok i) (hs : second.isSome = (f.opcode == wideOpcode)) :
    encodeFields i = ⟨f, second⟩ := by
  by_cases hop : f.opcode = wideOpcode
  · exact decodeWide_encodes hop (decodeFields_wide hop second ▸ h)
  · have hfirst := (decodeFields_faithful f second).encodes i h
    have hnone : (encodeFields i).second = none := by
      rw [← Option.isSome_eq_false_iff.trans Option.isNone_iff_eq_none, isSome_second, hfirst]
      exact beq_false_of_ne hop
    have hnone' : second = none := by
      rw [← Option.isSome_eq_false_iff.trans Option.isNone_iff_eq_none, hs]
      exact beq_false_of_ne hop
    rw [← hfirst, hnone', ← hnone]

/-- Settles O6: lenient decoding is strict decoding of the cleared encoding, and what strict decoding accepts is clear
already. -/
theorem lenientDecoderIgnoresUnusedFieldsOnly : Obligations.LenientDecoderIgnoresUnusedFieldsOnly := by
  intro f second
  have hf := decodeFields_faithful f second
  refine ⟨hf.lenient_eq, fun i h => ⟨hf.clean i h, ?_, ?_⟩, fun err h herr => ?_⟩
  · by_cases hop : f.opcode = wideOpcode
    · exact (decodeWide_clean hop (decodeFields_wide hop second ▸ h)).2
    · simp [funext fun g => Fields.clearedSecond_of_basic g hop]
  · rw [hf.relaxed (by simp [h]), h]
  · rw [hf.relaxed (by simpa [h] using herr), h]

end Sys2Proof

/-! PROOFS. Between bytes and instructions: slots are taken off bytes and put back, every instruction comes back from
its encoding and every strict encoding from its instruction (30_encoding.md R60 to R67, R86). -/

namespace Sys2Proof

/-! ### Bytes -/

theorem slotBytes_slotOfBytes (b0 b1 b2 b3 b4 b5 b6 b7 : Byte) :
    slotBytes (slotOfBytes b0 b1 b2 b3 b4 b5 b6 b7) = [b0, b1, b2, b3, b4, b5, b6, b7] := by
  simp only [slotBytes, slotOfBytes, List.cons.injEq, and_true]
  and_intros <;> (apply BitVec.eq_of_getLsbD_eq; intro i hi) <;>
    simp only [BitVec.getLsbD_append, BitVec.getLsbD_extractLsb'] <;> grind

theorem takeSlot_some {bs rest : List Byte} {w : Slot} (h : takeSlot bs = some (w, rest)) :
    bs = slotBytes w ++ rest := by
  unfold takeSlot at h
  split at h
  · cases h
    rw [slotBytes_slotOfBytes]
    rfl
  · cases h

/-- The bytes of an instruction are those of its first slot, and of its second where it has one. -/
theorem encode_eq (e : Endian) (i : Instr) :
    encode e i = slotBytes ((encodeFields i).first.toSlot e) ++
      (((encodeFields i).second.map (Fields.toSlot e)).map slotBytes).getD [] := by
  unfold encode encodeSlots
  cases (encodeFields i).second <;> simp

/-- What decoding accepts: one slot, or two where the first is wide. -/
theorem decode_ok {e : Endian} {strict : Bool} {bytes rest : List Byte} {i : Instr}
    (h : decode e strict bytes = .ok (i, rest)) :
    ∃ w second, second.isSome = isWide w ∧ decodeSlots e strict w second = .ok i ∧
      bytes = slotBytes w ++ (second.map slotBytes).getD [] ++ rest := by
  unfold decode at h
  split at h
  case h_1 => cases h
  case h_2 w bs hw =>
    split at h
    case isTrue hwide =>
      split at h
      case h_1 => cases h
      case h_2 w2 bs2 hw2 =>
        cases hd : decodeSlots e strict w (some w2) with
        | error err => rw [hd] at h; cases h
        | ok j =>
          rw [hd] at h
          cases h
          exact ⟨w, some w2, hwide.symm, hd, by simp [takeSlot_some hw, takeSlot_some hw2]⟩
    case isFalse hwide =>
      cases hd : decodeSlots e strict w none with
      | error err => rw [hd] at h; cases h
      | ok j =>
        rw [hd] at h
        cases h
        exact ⟨w, none, (Bool.eq_false_iff.2 hwide).symm, hd, by simp [takeSlot_some hw]⟩

/-- Settles O5: strict decoding of the slots gives their fields back. -/
theorem encodeOfDecode : Obligations.EncodeOfDecode := by
  intro e i bytes rest h
  obtain ⟨w, second, hwide, hd, rfl⟩ := decode_ok h
  have henc := encodeFields_of_decodeFields hd (by simpa [isWide] using hwide)
  rw [encode_eq, henc]
  cases second <;> simp

/-! ### The round trip -/

open Laws in
/-- The decoder gives every instruction back from its own fields (30_encoding.md R86). -/
theorem decodeFields_encodeFields (strict : Bool) (i : Instr) :
    decodeFields strict (encodeFields i).first (encodeFields i).second = .ok i := by
  cases i with
  | add32K => exact RoundTrip.add32K ..
  | add32X => exact RoundTrip.add32X ..
  | sub32K => exact RoundTrip.sub32K ..
  | sub32X => exact RoundTrip.sub32X ..
  | mul32K => exact RoundTrip.mul32K ..
  | mul32X => exact RoundTrip.mul32X ..
  | div32K => exact RoundTrip.div32K ..
  | div32X => exact RoundTrip.div32X ..
  | sdiv32K => exact RoundTrip.sdiv32K ..
  | sdiv32X => exact RoundTrip.sdiv32X ..
  | or32K => exact RoundTrip.or32K ..
  | or32X => exact RoundTrip.or32X ..
  | and32K => exact RoundTrip.and32K ..
  | and32X => exact RoundTrip.and32X ..
  | lsh32K => exact RoundTrip.lsh32K ..
  | lsh32X => exact RoundTrip.lsh32X ..
  | rsh32K => exact RoundTrip.rsh32K ..
  | rsh32X => exact RoundTrip.rsh32X ..
  | neg32 => exact RoundTrip.neg32 ..
  | mod32K => exact RoundTrip.mod32K ..
  | mod32X => exact RoundTrip.mod32X ..
  | smod32K => exact RoundTrip.smod32K ..
  | smod32X => exact RoundTrip.smod32X ..
  | xor32K => exact RoundTrip.xor32K ..
  | xor32X => exact RoundTrip.xor32X ..
  | mov32K => exact RoundTrip.mov32K ..
  | mov32X => exact RoundTrip.mov32X ..
  | movsx32From8 => exact RoundTrip.movsx32From8 ..
  | movsx32From16 => exact RoundTrip.movsx32From16 ..
  | arsh32K => exact RoundTrip.arsh32K ..
  | arsh32X => exact RoundTrip.arsh32X ..
  | add64K => exact RoundTrip.add64K ..
  | add64X => exact RoundTrip.add64X ..
  | sub64K => exact RoundTrip.sub64K ..
  | sub64X => exact RoundTrip.sub64X ..
  | mul64K => exact RoundTrip.mul64K ..
  | mul64X => exact RoundTrip.mul64X ..
  | div64K => exact RoundTrip.div64K ..
  | div64X => exact RoundTrip.div64X ..
  | sdiv64K => exact RoundTrip.sdiv64K ..
  | sdiv64X => exact RoundTrip.sdiv64X ..
  | or64K => exact RoundTrip.or64K ..
  | or64X => exact RoundTrip.or64X ..
  | and64K => exact RoundTrip.and64K ..
  | and64X => exact RoundTrip.and64X ..
  | lsh64K => exact RoundTrip.lsh64K ..
  | lsh64X => exact RoundTrip.lsh64X ..
  | rsh64K => exact RoundTrip.rsh64K ..
  | rsh64X => exact RoundTrip.rsh64X ..
  | neg64 => exact RoundTrip.neg64 ..
  | mod64K => exact RoundTrip.mod64K ..
  | mod64X => exact RoundTrip.mod64X ..
  | smod64K => exact RoundTrip.smod64K ..
  | smod64X => exact RoundTrip.smod64X ..
  | xor64K => exact RoundTrip.xor64K ..
  | xor64X => exact RoundTrip.xor64X ..
  | mov64K => exact RoundTrip.mov64K ..
  | mov64X => exact RoundTrip.mov64X ..
  | movsx64From8 => exact RoundTrip.movsx64From8 ..
  | movsx64From16 => exact RoundTrip.movsx64From16 ..
  | movsx64From32 => exact RoundTrip.movsx64From32 ..
  | arsh64K => exact RoundTrip.arsh64K ..
  | arsh64X => exact RoundTrip.arsh64X ..
  | le16 => exact RoundTrip.le16 ..
  | le32 => exact RoundTrip.le32 ..
  | le64 => exact RoundTrip.le64 ..
  | be16 => exact RoundTrip.be16 ..
  | be32 => exact RoundTrip.be32 ..
  | be64 => exact RoundTrip.be64 ..
  | bswap16 => exact RoundTrip.bswap16 ..
  | bswap32 => exact RoundTrip.bswap32 ..
  | bswap64 => exact RoundTrip.bswap64 ..
  | ja => exact RoundTrip.ja ..
  | ja32 => exact RoundTrip.ja32 ..
  | jeq64K => exact RoundTrip.jeq64K ..
  | jeq64X => exact RoundTrip.jeq64X ..
  | jeq32K => exact RoundTrip.jeq32K ..
  | jeq32X => exact RoundTrip.jeq32X ..
  | jgt64K => exact RoundTrip.jgt64K ..
  | jgt64X => exact RoundTrip.jgt64X ..
  | jgt32K => exact RoundTrip.jgt32K ..
  | jgt32X => exact RoundTrip.jgt32X ..
  | jge64K => exact RoundTrip.jge64K ..
  | jge64X => exact RoundTrip.jge64X ..
  | jge32K => exact RoundTrip.jge32K ..
  | jge32X => exact RoundTrip.jge32X ..
  | jset64K => exact RoundTrip.jset64K ..
  | jset64X => exact RoundTrip.jset64X ..
  | jset32K => exact RoundTrip.jset32K ..
  | jset32X => exact RoundTrip.jset32X ..
  | jne64K => exact RoundTrip.jne64K ..
  | jne64X => exact RoundTrip.jne64X ..
  | jne32K => exact RoundTrip.jne32K ..
  | jne32X => exact RoundTrip.jne32X ..
  | jsgt64K => exact RoundTrip.jsgt64K ..
  | jsgt64X => exact RoundTrip.jsgt64X ..
  | jsgt32K => exact RoundTrip.jsgt32K ..
  | jsgt32X => exact RoundTrip.jsgt32X ..
  | jsge64K => exact RoundTrip.jsge64K ..
  | jsge64X => exact RoundTrip.jsge64X ..
  | jsge32K => exact RoundTrip.jsge32K ..
  | jsge32X => exact RoundTrip.jsge32X ..
  | jlt64K => exact RoundTrip.jlt64K ..
  | jlt64X => exact RoundTrip.jlt64X ..
  | jlt32K => exact RoundTrip.jlt32K ..
  | jlt32X => exact RoundTrip.jlt32X ..
  | jle64K => exact RoundTrip.jle64K ..
  | jle64X => exact RoundTrip.jle64X ..
  | jle32K => exact RoundTrip.jle32K ..
  | jle32X => exact RoundTrip.jle32X ..
  | jslt64K => exact RoundTrip.jslt64K ..
  | jslt64X => exact RoundTrip.jslt64X ..
  | jslt32K => exact RoundTrip.jslt32K ..
  | jslt32X => exact RoundTrip.jslt32X ..
  | jsle64K => exact RoundTrip.jsle64K ..
  | jsle64X => exact RoundTrip.jsle64X ..
  | jsle32K => exact RoundTrip.jsle32K ..
  | jsle32X => exact RoundTrip.jsle32X ..
  | callHelper => exact RoundTrip.callHelper ..
  | callLocal => exact RoundTrip.callLocal ..
  | callBtf => exact RoundTrip.callBtf ..
  | exit => exact RoundTrip.exit ..
  | ldxB => exact RoundTrip.ldxB ..
  | ldxH => exact RoundTrip.ldxH ..
  | ldxW => exact RoundTrip.ldxW ..
  | ldxDw => exact RoundTrip.ldxDw ..
  | stB => exact RoundTrip.stB ..
  | stH => exact RoundTrip.stH ..
  | stW => exact RoundTrip.stW ..
  | stDw => exact RoundTrip.stDw ..
  | stxB => exact RoundTrip.stxB ..
  | stxH => exact RoundTrip.stxH ..
  | stxW => exact RoundTrip.stxW ..
  | stxDw => exact RoundTrip.stxDw ..
  | ldxsB => exact RoundTrip.ldxsB ..
  | ldxsH => exact RoundTrip.ldxsH ..
  | ldxsW => exact RoundTrip.ldxsW ..
  | atomic32Add => exact RoundTrip.atomic32Add ..
  | atomic32FetchAdd => exact RoundTrip.atomic32FetchAdd ..
  | atomic32Or => exact RoundTrip.atomic32Or ..
  | atomic32FetchOr => exact RoundTrip.atomic32FetchOr ..
  | atomic32And => exact RoundTrip.atomic32And ..
  | atomic32FetchAnd => exact RoundTrip.atomic32FetchAnd ..
  | atomic32Xor => exact RoundTrip.atomic32Xor ..
  | atomic32FetchXor => exact RoundTrip.atomic32FetchXor ..
  | atomic32Xchg => exact RoundTrip.atomic32Xchg ..
  | atomic32Cmpxchg => exact RoundTrip.atomic32Cmpxchg ..
  | atomic64Add => exact RoundTrip.atomic64Add ..
  | atomic64FetchAdd => exact RoundTrip.atomic64FetchAdd ..
  | atomic64Or => exact RoundTrip.atomic64Or ..
  | atomic64FetchOr => exact RoundTrip.atomic64FetchOr ..
  | atomic64And => exact RoundTrip.atomic64And ..
  | atomic64FetchAnd => exact RoundTrip.atomic64FetchAnd ..
  | atomic64Xor => exact RoundTrip.atomic64Xor ..
  | atomic64FetchXor => exact RoundTrip.atomic64FetchXor ..
  | atomic64Xchg => exact RoundTrip.atomic64Xchg ..
  | atomic64Cmpxchg => exact RoundTrip.atomic64Cmpxchg ..
  | ldImm64 => exact RoundTrip.ldImm64 ..
  | ldMapFd => exact RoundTrip.ldMapFd ..
  | ldMapValFd => exact RoundTrip.ldMapValFd ..
  | ldVarAddr => exact RoundTrip.ldVarAddr ..
  | ldCodeAddr => exact RoundTrip.ldCodeAddr ..
  | ldMapIdx => exact RoundTrip.ldMapIdx ..
  | ldMapValIdx => exact RoundTrip.ldMapValIdx ..
  | ldAbsW => exact RoundTrip.ldAbsW ..
  | ldAbsH => exact RoundTrip.ldAbsH ..
  | ldAbsB => exact RoundTrip.ldAbsB ..
  | ldIndW => exact RoundTrip.ldIndW ..
  | ldIndH => exact RoundTrip.ldIndH ..
  | ldIndB => exact RoundTrip.ldIndB ..

theorem decode_slotBytes {e : Endian} {strict : Bool} {w : Slot} {second : Option Slot} {i : Instr}
    (hwide : second.isSome = isWide w) (hd : decodeSlots e strict w second = .ok i) (rest : List Byte) :
    decode e strict (slotBytes w ++ (second.map slotBytes).getD [] ++ rest) = .ok (i, rest) := by
  cases second with
  | none => simp [decode, ← hwide, hd, Except.map]
  | some w2 => simp [decode, ← hwide, hd, Except.map]

/-- Settles O4: the slots of an instruction are taken off its bytes, and hold its fields. -/
theorem decodeOfEncode : Obligations.DecodeOfEncode := by
  intro e strict i rest
  have hd : decodeSlots e strict ((encodeFields i).first.toSlot e) ((encodeFields i).second.map (Fields.toSlot e)) =
      .ok i := by
    have hid : Fields.ofSlot e ∘ Fields.toSlot e = id := funext (Fields.ofSlot_toSlot e)
    rw [decodeSlots, Fields.ofSlot_toSlot, Option.map_map, hid, Option.map_id, id, decodeFields_encodeFields]
  rw [encode_eq]
  exact decode_slotBytes (by rw [Option.isSome_map, isSome_second, isWide_toSlot]) hd rest

/-! ### Register nibbles -/

theorem regs_nibbles (w : Slot) : w.extractLsb' 8 8 = w.extractLsb' 12 4 ++ w.extractLsb' 8 4 := by
  apply BitVec.eq_of_getLsbD_eq
  intro i hi
  simp only [BitVec.getLsbD_append, BitVec.getLsbD_extractLsb']
  grind

theorem regsByte_little (w : Slot) :
    (slotBytes w)[1]? = some ((Fields.ofSlot .little w).src ++ (Fields.ofSlot .little w).dst) :=
  congrArg some (regs_nibbles w)

theorem regsByte_big (w : Slot) :
    (slotBytes w)[1]? = some ((Fields.ofSlot .big w).dst ++ (Fields.ofSlot .big w).src) :=
  congrArg some (regs_nibbles w)

/-- Settles O11: byte 1 is the nibbles of any slot, and the fields of the slot of some fields are those. -/
theorem regsByteFollowsHost : Obligations.RegsByteFollowsHost := by
  refine ⟨fun f => ⟨?_, ?_⟩, fun w => ⟨regsByte_little w, regsByte_big w⟩, by decide, by decide⟩
  · rw [regsByte_little, Fields.ofSlot_toSlot]
  · rw [regsByte_big, Fields.ofSlot_toSlot]

/-- Settles O10: each word is run through the decoder. -/
theorem decodedWords : Obligations.DecodedWords := by
  unfold Obligations.DecodedWords
  and_intros <;> rfl

end Sys2Proof

/-! PROOFS. The fields that select an instruction: `offset` in classes ALU and ALU64, `src_reg` in CALL and the wide
instructions, and the opcode bytes that stand for none (30_encoding.md R73, R74, R82). -/

namespace Sys2Proof

/-! ### What an accepted encoding is -/

section Selectors

variable {strict : Bool} {f : Fields} {i : Instr} {k sk : Reg → Word32 → Instr} {x sx : Reg → Reg → Instr}

theorem formK_ok (h : formK strict f k = .ok i) : ∃ d imm, i = k d imm := by
  obtain ⟨-, h⟩ := needUnused_ok h
  obtain ⟨d, -, h⟩ := withDst_ok h
  cases h
  exact ⟨d, _, rfl⟩

theorem formX_ok (h : formX strict f x = .ok i) : ∃ d r, i = x d r := by
  obtain ⟨-, h⟩ := needUnused_ok h
  obtain ⟨d, -, h⟩ := withDst_ok h
  obtain ⟨r, -, h⟩ := withSrc_ok h
  cases h
  exact ⟨d, r, rfl⟩

theorem formKX_ok (h : formKX strict f k x = .ok i) : ∃ d r imm, i = k d imm ∨ i = x d r := by
  unfold formKX at h
  split at h
  · obtain ⟨d, r, hi⟩ := formX_ok h
    exact ⟨d, r, 0#32, .inr hi⟩
  · obtain ⟨d, imm, hi⟩ := formK_ok h
    exact ⟨d, d, imm, .inl hi⟩

theorem arith_offset (h : arith strict f k x = .ok i) : f.offset = 0#16 := by
  unfold arith at h
  split at h
  · assumption
  · cases h

theorem negate_offset {mk : Reg → Instr} (h : negate strict f mk = .ok i) : f.offset = 0#16 := by
  unfold negate at h
  split_ifs at h
  assumption

theorem swap_offset {w16 w32 w64 : Reg → Instr} (h : swap strict f w16 w32 w64 = .ok i) : f.offset = 0#16 := by
  unfold swap at h
  split at h
  · assumption
  · cases h

/-- The unsigned operation at `offset` 0 and the signed one at 1, each in a form the caller gives. -/
theorem arithSigned_ok {p q : Reg → Reg → Word32 → Prop} (h : arithSigned strict f k x sk sx = .ok i)
    (hp : ∀ d r imm, i = k d imm ∨ i = x d r → p d r imm) (hq : ∀ d r imm, i = sk d imm ∨ i = sx d r → q d r imm) :
    (f.offset = 0#16 ∧ ∃ d r imm, p d r imm) ∨ (f.offset = 1#16 ∧ ∃ d r imm, q d r imm) := by
  unfold arithSigned at h
  split_ifs at h with h0 h1
  · obtain ⟨d, r, imm, hi⟩ := formKX_ok h
    exact .inl ⟨h0, d, r, imm, hp d r imm hi⟩
  · obtain ⟨d, r, imm, hi⟩ := formKX_ok h
    exact .inr ⟨h1, d, r, imm, hq d r imm hi⟩

theorem decodeAlu32_offset (h3 : f.code ≠ 0x3) (h9 : f.code ≠ 0x9) (hb : f.code ≠ 0xb)
    (h : decodeAlu32 strict f = .ok i) : f.offset = 0#16 := by
  unfold decodeAlu32 at h
  split at h
  case h_4 hn => exact absurd hn h3
  case h_10 hn => exact absurd hn h9
  case h_12 hn => exact absurd hn hb
  case h_9 => exact negate_offset h
  case h_14 => split at h <;> exact swap_offset h
  case h_15 => cases h
  all_goals exact arith_offset h

theorem decodeAlu64_offset (h3 : f.code ≠ 0x3) (h9 : f.code ≠ 0x9) (hb : f.code ≠ 0xb)
    (h : decodeAlu64 strict f = .ok i) : f.offset = 0#16 := by
  unfold decodeAlu64 at h
  split at h
  case h_4 hn => exact absurd hn h3
  case h_10 hn => exact absurd hn h9
  case h_12 hn => exact absurd hn hb
  case h_9 => exact negate_offset h
  case h_14 =>
    split at h
    · cases h
    · exact swap_offset h
  case h_15 => cases h
  all_goals exact arith_offset h

/-- MOV and MOVSX of class ALU, by `offset` (30_encoding.md R73). -/
theorem decodeAlu32_mov (hn : f.code = 0xb) (h : decodeAlu32 strict f = .ok i) :
    (f.offset = 0#16 ∧ ∃ d r imm, i = .mov32K d imm ∨ i = .mov32X d r) ∨
      (f.sourceX = true ∧ f.offset = 8#16 ∧ ∃ d r, i = .movsx32From8 d r) ∨
      (f.sourceX = true ∧ f.offset = 16#16 ∧ ∃ d r, i = .movsx32From16 d r) := by
  simp only [decodeAlu32, hn, Bool.and_eq_true, beq_iff_eq] at h
  split_ifs at h with h0 h8 h16
  · exact .inl ⟨h0, formKX_ok h⟩
  · exact .inr (.inl ⟨h8.1, h8.2, formX_ok h⟩)
  · exact .inr (.inr ⟨h16.1, h16.2, formX_ok h⟩)

/-- MOV and MOVSX of class ALU64, by `offset` (30_encoding.md R73). -/
theorem decodeAlu64_mov (hn : f.code = 0xb) (h : decodeAlu64 strict f = .ok i) :
    (f.offset = 0#16 ∧ ∃ d r imm, i = .mov64K d imm ∨ i = .mov64X d r) ∨
      (f.sourceX = true ∧ f.offset = 8#16 ∧ ∃ d r, i = .movsx64From8 d r) ∨
      (f.sourceX = true ∧ f.offset = 16#16 ∧ ∃ d r, i = .movsx64From16 d r) ∨
      (f.sourceX = true ∧ f.offset = 32#16 ∧ ∃ d r, i = .movsx64From32 d r) := by
  simp only [decodeAlu64, hn, Bool.and_eq_true, beq_iff_eq] at h
  split_ifs at h with h0 h8 h16 h32
  · exact .inl ⟨h0, formKX_ok h⟩
  · exact .inr (.inl ⟨h8.1, h8.2, formX_ok h⟩)
  · exact .inr (.inr (.inl ⟨h16.1, h16.2, formX_ok h⟩))
  · exact .inr (.inr (.inr ⟨h32.1, h32.2, formX_ok h⟩))

end Selectors

/-- Settles O8: in each class, DIV, MOD, MOV and the other codes. -/
theorem offsetSelectsOperation : Obligations.OffsetSelectsOperation := by
  intro strict f second i hc h
  rcases hc with hc | hc
  · replace h : decodeAlu32 strict f = .ok i := by simpa only [decodeFields, hc] using h
    refine ⟨fun hn => ?_, fun hn => ?_, fun hn => ?_, fun h3 h9 hb => decodeAlu32_offset h3 h9 hb h⟩
    · simp only [decodeAlu32, hn] at h
      exact arithSigned_ok h (fun _ _ _ => by tauto) fun _ _ _ => by tauto
    · simp only [decodeAlu32, hn] at h
      exact arithSigned_ok h (fun _ _ _ => by tauto) fun _ _ _ => by tauto
    · rcases decodeAlu32_mov hn h with ⟨ho, d, r, imm, hi⟩ | ⟨hX, ho, d, r, hi⟩ | ⟨hX, ho, d, r, hi⟩
      · exact .inl ⟨ho, d, r, imm, by tauto⟩
      · exact .inr (.inl ⟨hX, ho, d, r, .inl ⟨hc, hi⟩⟩)
      · exact .inr (.inr (.inl ⟨hX, ho, d, r, .inl ⟨hc, hi⟩⟩))
  · replace h : decodeAlu64 strict f = .ok i := by simpa only [decodeFields, hc] using h
    refine ⟨fun hn => ?_, fun hn => ?_, fun hn => ?_, fun h3 h9 hb => decodeAlu64_offset h3 h9 hb h⟩
    · simp only [decodeAlu64, hn] at h
      exact arithSigned_ok h (fun _ _ _ => by tauto) fun _ _ _ => by tauto
    · simp only [decodeAlu64, hn] at h
      exact arithSigned_ok h (fun _ _ _ => by tauto) fun _ _ _ => by tauto
    · rcases decodeAlu64_mov hn h with
        ⟨ho, d, r, imm, hi⟩ | ⟨hX, ho, d, r, hi⟩ | ⟨hX, ho, d, r, hi⟩ | ⟨hX, ho, d, r, hi⟩
      · exact .inl ⟨ho, d, r, imm, by tauto⟩
      · exact .inr (.inl ⟨hX, ho, d, r, .inr ⟨hc, hi⟩⟩)
      · exact .inr (.inr (.inl ⟨hX, ho, d, r, .inr ⟨hc, hi⟩⟩))
      · exact .inr (.inr (.inr ⟨hX, ho, hc, d, r, hi⟩))

theorem decodeCall_ok {strict : Bool} {f : Fields} {i : Instr} (h : decodeCall strict f = .ok i) :
    (f.src = 0#4 ∧ i = .callHelper f.imm) ∨ (f.src = 1#4 ∧ i = .callLocal f.imm) ∨
      (f.src = 2#4 ∧ i = .callBtf f.imm) := by
  unfold decodeCall at h
  split at h
  case h_4 => cases h
  all_goals
    obtain ⟨-, h⟩ := needUnused_ok h
    cases h
    simp [BitVec.toNat_eq, ‹f.src.toNat = _›]

theorem decodeFields_call {strict : Bool} {f : Fields} (hop : f.opcode = 0x85#8) (second : Option Fields) :
    decodeFields strict f second = decodeCall strict f := by
  have hc : f.cls = 5 := by rw [Fields.cls, hop]; rfl
  have hn : f.code = 8 := by rw [Fields.code, hop]; rfl
  have hX : f.sourceX = false := by rw [Fields.sourceX, hop]; rfl
  simp [decodeFields, decodeJmp, hc, hn, hX]

theorem callSubtype_cases : ∀ k : BitVec 4, k.toNat < 3 → k = 0#4 ∨ k = 1#4 ∨ k = 2#4 := by decide

theorem wideSubtype_cases : ∀ k : BitVec 4, k.toNat < 7 →
    k = 0#4 ∨ k = 1#4 ∨ k = 2#4 ∨ k = 3#4 ∨ k = 4#4 ∨ k = 5#4 ∨ k = 6#4 := by decide

open Laws in
/-- Settles O9: each subtype is accepted in the encoding of its instruction. -/
theorem sourceSelectsSubtype : Obligations.SourceSelectsSubtype := by
  refine ⟨fun strict f second i hop h => ?_, fun strict f second i hop h => ?_, fun k hk => ?_, fun k hk => ?_⟩
  · rw [decodeFields_call hop] at h
    exact decodeCall_ok h
  · rw [decodeFields_wide hop] at h
    obtain ⟨g, d, -, -, -, hi⟩ := decodeWide_ok h
    exact ⟨d, g.imm, hi⟩
  · rcases callSubtype_cases k hk with rfl | rfl | rfl
    · exact ⟨_, _, rfl, rfl, RoundTrip.callHelper 0#32 true⟩
    · exact ⟨_, _, rfl, rfl, RoundTrip.callLocal 0#32 true⟩
    · exact ⟨_, _, rfl, rfl, RoundTrip.callBtf 0#32 true⟩
  · rcases wideSubtype_cases k hk with rfl | rfl | rfl | rfl | rfl | rfl | rfl
    · exact ⟨_, _, _, rfl, rfl, RoundTrip.ldImm64 .r0 0#32 0#32 true⟩
    · exact ⟨_, _, _, rfl, rfl, RoundTrip.ldMapFd .r0 0#32 true⟩
    · exact ⟨_, _, _, rfl, rfl, RoundTrip.ldMapValFd .r0 0#32 0#32 true⟩
    · exact ⟨_, _, _, rfl, rfl, RoundTrip.ldVarAddr .r0 0#32 true⟩
    · exact ⟨_, _, _, rfl, rfl, RoundTrip.ldCodeAddr .r0 0#32 true⟩
    · exact ⟨_, _, _, rfl, rfl, RoundTrip.ldMapIdx .r0 0#32 true⟩
    · exact ⟨_, _, _, rfl, rfl, RoundTrip.ldMapValIdx .r0 0#32 0#32 true⟩

/-! ### Reserved opcode bytes -/

/-- The opcode bytes that stand for no instruction, class by class (30_encoding.md R69, R71, R81 items 4, 6, 9). -/
def Fields.noInstr (f : Fields) : Bool :=
  match f.cls with
  | 0 => !(f.mode == 0 && f.size == 3) && !((f.mode == 1 || f.mode == 2) && f.size != 3)
  | 1 => f.mode != 3 && !(f.mode == 4 && f.size != 3)
  | 2 => f.mode != 3
  | 3 => f.mode != 3 && !(f.mode == 6 && (f.size == 0 || f.size == 3))
  | 4 => decide (14 ≤ f.code) || (f.code == 8 && f.sourceX)
  | 5 => decide (14 ≤ f.code) || ((f.code == 0 || f.code == 8 || f.code == 9) && f.sourceX)
  | 6 => decide (14 ≤ f.code) || f.code == 8 || f.code == 9 || (f.code == 0 && f.sourceX)
  | _ => decide (14 ≤ f.code) || ((f.code == 8 || f.code == 13) && f.sourceX)

/-- The list of R82 agrees with the tables of classes, codes, modes and sizes. -/
theorem noInstr_iff (f : Fields) :
    f.noInstr = true ↔ f.opcode.toNat ∈ reservedOpcodes ∨ 0xe0 ≤ f.opcode.toNat := by
  unfold Fields.noInstr Fields.cls Fields.code Fields.sourceX Fields.mode Fields.size
  generalize f.opcode = op
  revert op
  decide

/-- A byte without an instruction falls to the last row of its class, or to the refused source bit of a row. -/
theorem decodeFields_reserved (strict : Bool) {f : Fields} (second : Option Fields) (h : f.noInstr = true) :
    decodeFields strict f second = .error (.reservedOpcode f.opcode) := by
  unfold Fields.noInstr at h
  unfold decodeFields
  generalize f.cls = c at h
  split
  case h_1 => unfold decodeLd; split <;> simp_all
  case h_2 => unfold decodeLdx; split <;> simp_all
  case h_3 => unfold decodeSt; split <;> simp_all
  case h_4 => unfold decodeStx; split <;> simp_all
  case h_5 => unfold decodeAlu32; split <;> simp_all [negate]
  case h_6 => unfold decodeJmp; split <;> simp_all
  case h_7 => unfold decodeJmp32; split <;> simp_all
  case h_8 => unfold decodeAlu64; split <;> simp_all [negate]

/-- Fields with the given opcode byte and no other bit, but for the width a byte swap has in `imm` (R75). -/
def sampleFields (op : BitVec 8) : Fields :=
  { opcode := op, dst := 0#4, src := 0#4, offset := 0#16
    imm := if op ∈ [0xd4#8, 0xd7#8, 0xdc#8] then 16#32 else 0#32 }

theorem sampleFields_accepted : ∀ op : BitVec 8, ¬(op.toNat ∈ reservedOpcodes) → op.toNat < 0xe0 →
    (decodeFields true (sampleFields op) (some ⟨0#8, 0#4, 0#4, 0#16, 0#32⟩)).isOk = true := by
  decide

/-- Settles O7: a reserved byte is refused by its class, and any other is accepted with sample fields. (The name alone
is that of the list.) -/
theorem Encoding.reservedOpcodes : Obligations.ReservedOpcodes := by
  refine fun op => ⟨fun hop strict f second hf => ?_, fun hop hlt => ?_⟩
  · subst hf
    exact decodeFields_reserved strict second ((noInstr_iff f).2 hop)
  · have h := sampleFields_accepted op hop hlt
    generalize hd : decodeFields true (sampleFields op) _ = r at h
    cases r with
    | ok i => exact ⟨_, _, i, rfl, hd⟩
    | error e => cases h

end Sys2Proof

/-! PROOFS. Class ALU (40_alu32.md R100 to R135): what its two forms leave, the shift amount of R102, and the table of
R103 for division and remainder, at every width. -/

namespace Sys2Proof.Machine

/-! ### Division and remainder: the model's operations are those of the bit-vector library -/

theorem minSigned_eq_intMin (w : Nat) : minSigned w = BitVec.intMin w := by
  apply BitVec.eq_of_toNat_eq
  rw [minSigned, BitVec.toNat_ofNat, BitVec.toNat_intMin]

theorem divU_eq_udiv {w : Nat} (a b : BitVec w) : divU a b = a / b := by
  unfold divU
  split
  · next hb => rw [hb, BitVec.udiv_zero]
  · rw [← BitVec.toNat_udiv, BitVec.ofNat_toNat, BitVec.setWidth_eq]

theorem modU_eq_umod {w : Nat} (a b : BitVec w) : modU a b = a % b := by
  unfold modU
  split
  · next hb => rw [hb, BitVec.umod_zero]
  · exact BitVec.umod_def.symm

theorem divS_eq_sdiv {w : Nat} (a b : BitVec w) : divS a b = a.sdiv b := by
  unfold divS
  rw [minSigned_eq_intMin]
  split
  · next hb => rw [hb, BitVec.sdiv_zero]
  · split
    · next hover => rw [hover.1, hover.2, BitVec.intMin_sdiv_neg_one]
    · next hover =>
      rw [← BitVec.toInt_sdiv_of_ne_or_ne a b (not_and_or.1 hover), BitVec.ofInt_toInt]

theorem srem_neg_one {w : Nat} (a : BitVec w) : a.srem (-1#w) = 0#w := by
  rw [← BitVec.toInt_inj, BitVec.toInt_srem, BitVec.neg_one_eq_allOnes, BitVec.toInt_allOnes, BitVec.toInt_zero]
  split
  · rw [Int.tmod_neg, Int.tmod_one]
  · next hw =>
    obtain rfl : w = 0 := Nat.eq_zero_of_not_pos hw
    rw [Int.tmod_zero, BitVec.toInt_zero_length]

theorem modS_eq_srem {w : Nat} (a b : BitVec w) : modS a b = a.srem b := by
  unfold modS
  split
  · next hb => rw [hb, BitVec.srem_zero]
  · split
    · next hover => rw [hover.2, srem_neg_one]
    · rw [← BitVec.toInt_srem, BitVec.ofInt_toInt]

/-! ### Division and remainder: the table of R103 -/

theorem overflows_iff {w : Nat} (hw : 0 < w) (a b : BitVec w) :
    overflows a b ↔ a = BitVec.intMin w ∧ b = -1#w := by
  rw [overflows, ← BitVec.toInt_inj, ← BitVec.toInt_inj, BitVec.toInt_intMin_of_pos hw, BitVec.neg_one_eq_allOnes,
    BitVec.toInt_allOnes, if_pos hw]

theorem divU_isQuotient {w : Nat} (a b : BitVec w) : isQuotient a b (divU a b) := by
  rw [divU_eq_udiv]
  exact ⟨fun hb => by rw [hb, BitVec.udiv_zero], fun _ => BitVec.toNat_udiv⟩

theorem modU_isRemainder {w : Nat} (a b : BitVec w) : isRemainder a b (modU a b) := by
  rw [modU_eq_umod]
  exact ⟨fun hb => by rw [hb, BitVec.umod_zero], fun _ => by rw [BitVec.toNat_umod, Nat.mod_eq_sub]⟩

theorem divS_isSignedQuotient {w : Nat} (hw : 0 < w) (a b : BitVec w) : isSignedQuotient a b (divS a b) := by
  rw [divS_eq_sdiv, isSignedQuotient, overflows_iff hw]
  refine ⟨fun hb => ?zero, fun hover => ?overflow, fun _ hover => ?quotient⟩
  case zero => rw [hb, BitVec.sdiv_zero]
  case overflow => rw [hover.1, hover.2, BitVec.intMin_sdiv_neg_one, BitVec.toInt_intMin_of_pos hw]
  case quotient => exact BitVec.toInt_sdiv_of_ne_or_ne a b (not_and_or.1 hover)

theorem modS_isSignedRemainder {w : Nat} (hw : 0 < w) (a b : BitVec w) : isSignedRemainder a b (modS a b) := by
  rw [modS_eq_srem, isSignedRemainder, overflows_iff hw]
  refine ⟨fun hb => ?zero, fun hover => ?overflow, fun _ _ => ?remainder⟩
  case zero => rw [hb, BitVec.srem_zero]
  case overflow => rw [hover.2, srem_neg_one]
  case remainder => rw [BitVec.toInt_srem, Int.tmod_def]

/-! ### The shift amount -/

/-- Masking with 0x1f is taking the remainder by 32 (40_alu32.md R102). -/
theorem shiftAmount32_eq_mod (b : Word32) : shiftAmount32 b = b.toNat % 32 := by
  rw [shiftAmount32, BitVec.toNat_and]
  exact Nat.and_two_pow_sub_one_eq_mod b.toNat 5

theorem shl_shiftAmount32 (a b : Word32) : a <<< shiftAmount32 b = a <<< (b.toNat % 32) := by
  rw [shiftAmount32_eq_mod]

theorem ushr_shiftAmount32 (a b : Word32) : a >>> shiftAmount32 b = a >>> (b.toNat % 32) := by
  rw [shiftAmount32_eq_mod]

theorem sshr_shiftAmount32 (a b : Word32) :
    a.sshiftRight (shiftAmount32 b) = a.sshiftRight (b.toNat % 32) := by
  rw [shiftAmount32_eq_mod]

/-! ### The two forms of class ALU -/

theorem alu32K_next {s : State} {d : Reg} {imm v : Word32} (op : Word32 → Word32 → Word32) (hd : d ≠ .r10)
    (hr : Readable s [d]) (hv : op ((dstVal s d).setWidth 32) imm = v) :
    alu32K op d imm s = .next (wrote s d (v.setWidth 64) 1) := by
  rw [← hv]
  exact writeResult_next _ hd hr

theorem alu32X_next {s : State} {d r : Reg} {v : Word32} (op : Word32 → Word32 → Word32) (hd : d ≠ .r10)
    (hr : Readable s [d, r]) (hv : op ((dstVal s d).setWidth 32) ((srcVal s r).setWidth 32) = v) :
    alu32X op d r s = .next (wrote s d (v.setWidth 64) 1) := by
  rw [← hv]
  exact writeResult_next _ hd hr

theorem readable_nil (s : State) : Readable s [] := fun _ _ hq => absurd hq List.not_mem_nil

/-- The low half of a register written with a zero-extended 32-bit result is that result (40_alu32.md R100). -/
theorem low32_wrote (s : State) (d : Reg) (v : Word32) (n : Int) :
    (((wrote s d (v.setWidth 64) n).x.get d).val).setWidth 32 = v := by
  rw [wrote_x, RegFile.get_set_self, BitVec.setWidth_setWidth_of_le _ (by decide), BitVec.setWidth_eq]

/-! ### The instructions -/

/-- Settles O26: each form writes the value of the model's `divU`, `modU`, `divS` or `modS`, and these meet the table
at every width. -/
theorem alu32Division : Obligations.Alu32Division := by
  intro s d r imm hd
  refine ⟨fun hr => ⟨?_, ?_, ?_, ?_⟩, fun hr => ⟨?_, ?_, ?_, ?_⟩⟩
  · exact ⟨_, divU_isQuotient _ _, alu32K_next divU hd hr rfl⟩
  · exact ⟨_, modU_isRemainder _ _, alu32K_next modU hd hr rfl⟩
  · exact ⟨_, divS_isSignedQuotient (by decide) _ _, alu32K_next divS hd hr rfl⟩
  · exact ⟨_, modS_isSignedRemainder (by decide) _ _, alu32K_next modS hd hr rfl⟩
  · exact ⟨_, divU_isQuotient _ _, alu32X_next divU hd hr rfl⟩
  · exact ⟨_, modU_isRemainder _ _, alu32X_next modU hd hr rfl⟩
  · exact ⟨_, divS_isSignedQuotient (by decide) _ _, alu32X_next divS hd hr rfl⟩
  · exact ⟨_, modS_isSignedRemainder (by decide) _ _, alu32X_next modS hd hr rfl⟩

/-- Settles O25: the shifts are the two forms of the class with the amount of R102; the others write their operand,
negated, truncated or sign-extended. -/
theorem alu32ShiftsAndMoves : Obligations.Alu32ShiftsAndMoves := by
  intro s d r imm hd
  refine ⟨writeResult_next _ hd (readable_nil s), fun hr => ⟨?_, ?_, ?_, ?_⟩, fun hr => ⟨?_, ?_, ?_⟩,
    fun hr => ⟨?_, ?_, ?_⟩⟩
  · exact alu32K_next (fun a b => a <<< shiftAmount32 b) hd hr (shl_shiftAmount32 _ _)
  · exact alu32K_next (fun a b => a >>> shiftAmount32 b) hd hr (ushr_shiftAmount32 _ _)
  · exact alu32K_next (fun a b => a.sshiftRight (shiftAmount32 b)) hd hr (sshr_shiftAmount32 _ _)
  · rw [← BitVec.zero_sub]
    exact writeResult_next _ hd hr
  · exact alu32X_next (fun a b => a <<< shiftAmount32 b) hd hr (shl_shiftAmount32 _ _)
  · exact alu32X_next (fun a b => a >>> shiftAmount32 b) hd hr (ushr_shiftAmount32 _ _)
  · exact alu32X_next (fun a b => a.sshiftRight (shiftAmount32 b)) hd hr (sshr_shiftAmount32 _ _)
  · exact writeResult_next _ hd hr
  · exact writeResult_next _ hd hr
  · exact writeResult_next _ hd hr

/-- Settles O30: the low half of what the shifts of O25 write. -/
theorem shiftAmountsAlu32 : Obligations.ShiftAmountsAlu32 := by
  intro s d r imm hd
  obtain ⟨-, hK, hX, -⟩ := alu32ShiftsAndMoves s d r imm hd
  refine ⟨fun hr => ?_, fun hr => ?_⟩
  · obtain ⟨hlsh, hrsh, harsh, -⟩ := hK hr
    exact ⟨⟨_, hlsh, low32_wrote ..⟩, ⟨_, hrsh, low32_wrote ..⟩, ⟨_, harsh, low32_wrote ..⟩⟩
  · obtain ⟨hlsh, hrsh, harsh⟩ := hX hr
    exact ⟨⟨_, hlsh, low32_wrote ..⟩, ⟨_, hrsh, low32_wrote ..⟩, ⟨_, harsh, low32_wrote ..⟩⟩

/-- Settles O24: every operation is one of the two forms of the class. -/
theorem alu32Arithmetic : Obligations.Alu32Arithmetic := by
  intro s d r imm hd
  refine ⟨fun hr => ⟨?_, ?_, ?_, ?_, ?_, ?_⟩, fun hr => ⟨?_, ?_, ?_, ?_, ?_, ?_⟩⟩
  · exact alu32K_next (· + ·) hd hr rfl
  · exact alu32K_next (· - ·) hd hr rfl
  · exact alu32K_next (· ||| ·) hd hr rfl
  · exact alu32K_next (· &&& ·) hd hr rfl
  · exact alu32K_next (· ^^^ ·) hd hr rfl
  · exact alu32K_next (· * ·) hd hr rfl
  · exact alu32X_next (· + ·) hd hr rfl
  · exact alu32X_next (· - ·) hd hr rfl
  · exact alu32X_next (· ||| ·) hd hr rfl
  · exact alu32X_next (· &&& ·) hd hr rfl
  · exact alu32X_next (· ^^^ ·) hd hr rfl
  · exact alu32X_next (· * ·) hd hr rfl

end Sys2Proof.Machine

/-! PROOFS. Class ALU64 (41_alu64.md R140 to R176): what its two forms leave, and the shift amount of R142. The table
of R143 for division and remainder is that of R103, proved for class ALU at every width. -/

namespace Sys2Proof.Machine

/-! ### The shift amount -/

/-- Masking with 0x3f is taking the remainder by 64 (41_alu64.md R142). -/
theorem shiftAmount64_eq_mod (b : Word) : shiftAmount64 b = b.toNat % 64 := by
  rw [shiftAmount64, BitVec.toNat_and]
  exact Nat.and_two_pow_sub_one_eq_mod b.toNat 6

/-- Sign extension adds a multiple of 2^32, which does not reach the six bits of a shift amount. -/
theorem toNat_signExtend_mod64 (imm : Word32) : (imm.signExtend 64).toNat % 64 = imm.toNat % 64 := by
  rw [BitVec.toNat_signExtend, BitVec.toNat_setWidth]
  split <;> omega

/-- The shift amount of a `K` form needs no sign extension. -/
theorem shiftAmount64_immWord (imm : Word32) : shiftAmount64 (immWord imm) = imm.toNat % 64 := by
  rw [shiftAmount64_eq_mod, immWord, toNat_signExtend_mod64]

/-! ### The two forms of class ALU64 -/

theorem alu64K_next {s : State} {d : Reg} {imm : Word32} {v : Word} (op : Word → Word → Word) (hd : d ≠ .r10)
    (hr : Readable s [d]) (hv : op (dstVal s d) (imm.signExtend 64) = v) :
    alu64K op d imm s = .next (wrote s d v 1) := by
  rw [← hv]
  exact writeResult_next _ hd hr

theorem alu64X_next {s : State} {d r : Reg} {v : Word} (op : Word → Word → Word) (hd : d ≠ .r10)
    (hr : Readable s [d, r]) (hv : op (dstVal s d) (srcVal s r) = v) :
    alu64X op d r s = .next (wrote s d v 1) := by
  rw [← hv]
  exact writeResult_next _ hd hr

/-- A shift, given by how it takes its amount as a number, in the `K` form. -/
theorem shift64K_next {s : State} {d : Reg} {imm : Word32} (shift : Word → Nat → Word) (hd : d ≠ .r10)
    (hr : Readable s [d]) :
    alu64K (fun a b => shift a (shiftAmount64 b)) d imm s =
      .next (wrote s d (shift (dstVal s d) (imm.toNat % 64)) 1) :=
  alu64K_next _ hd hr (congrArg (shift _) (shiftAmount64_immWord imm))

/-- A shift, given by how it takes its amount as a number, in the `X` form. -/
theorem shift64X_next {s : State} {d r : Reg} (shift : Word → Nat → Word) (hd : d ≠ .r10)
    (hr : Readable s [d, r]) :
    alu64X (fun a b => shift a (shiftAmount64 b)) d r s =
      .next (wrote s d (shift (dstVal s d) ((srcVal s r).toNat % 64)) 1) :=
  alu64X_next _ hd hr (congrArg (shift _) (shiftAmount64_eq_mod _))

/-- A register just written reads back as what was written. -/
theorem val_wrote (s : State) (d : Reg) (v : Word) (n : Int) : ((wrote s d v n).x.get d).val = v := by
  rw [wrote_x, RegFile.get_set_self]

/-! ### The instructions -/

/-- Settles O27: each form writes the value of the model's `divU`, `modU`, `divS` or `modS`, and these meet the table
at every width. -/
theorem alu64Division : Obligations.Alu64Division := by
  intro s d r imm hd
  refine ⟨fun hr => ⟨?_, ?_, ?_, ?_⟩, fun hr => ⟨?_, ?_, ?_, ?_⟩⟩
  · exact ⟨_, divU_isQuotient _ _, alu64K_next divU hd hr rfl⟩
  · exact ⟨_, modU_isRemainder _ _, alu64K_next modU hd hr rfl⟩
  · exact ⟨_, divS_isSignedQuotient (by decide) _ _, alu64K_next divS hd hr rfl⟩
  · exact ⟨_, modS_isSignedRemainder (by decide) _ _, alu64K_next modS hd hr rfl⟩
  · exact ⟨_, divU_isQuotient _ _, alu64X_next divU hd hr rfl⟩
  · exact ⟨_, modU_isRemainder _ _, alu64X_next modU hd hr rfl⟩
  · exact ⟨_, divS_isSignedQuotient (by decide) _ _, alu64X_next divS hd hr rfl⟩
  · exact ⟨_, modS_isSignedRemainder (by decide) _ _, alu64X_next modS hd hr rfl⟩

/-- Settles O29: the shifts are the two forms of the class with the amount of R142; the others write their operand,
negated or sign-extended. -/
theorem alu64ShiftsAndMoves : Obligations.Alu64ShiftsAndMoves := by
  intro s d r imm hd
  refine ⟨writeResult_next _ hd (readable_nil s), fun hr => ⟨?_, ?_, ?_, ?_⟩, fun hr => ⟨?_, ?_, ?_⟩,
    fun hr => ⟨?_, ?_, ?_, ?_⟩⟩
  · exact shift64K_next (· <<< ·) hd hr
  · exact shift64K_next (· >>> ·) hd hr
  · exact shift64K_next BitVec.sshiftRight hd hr
  · rw [← BitVec.zero_sub]
    exact writeResult_next _ hd hr
  · exact shift64X_next (· <<< ·) hd hr
  · exact shift64X_next (· >>> ·) hd hr
  · exact shift64X_next BitVec.sshiftRight hd hr
  · exact writeResult_next _ hd hr
  · exact writeResult_next _ hd hr
  · exact writeResult_next _ hd hr
  · exact writeResult_next _ hd hr

/-- Settles O31: what the shifts of O29 write, where the amount of a `K` form is also that of its sign-extended
immediate. -/
theorem shiftAmountsAlu64 : Obligations.ShiftAmountsAlu64 := by
  intro s d r imm hd
  obtain ⟨-, hK, hX, -⟩ := alu64ShiftsAndMoves s d r imm hd
  rw [toNat_signExtend_mod64]
  refine ⟨fun hr => ?_, fun hr => ?_⟩
  · obtain ⟨hlsh, hrsh, harsh, -⟩ := hK hr
    exact ⟨⟨_, hlsh, val_wrote ..⟩, ⟨_, hrsh, val_wrote ..⟩, ⟨_, harsh, val_wrote ..⟩⟩
  · obtain ⟨hlsh, hrsh, harsh⟩ := hX hr
    exact ⟨⟨_, hlsh, val_wrote ..⟩, ⟨_, hrsh, val_wrote ..⟩, ⟨_, harsh, val_wrote ..⟩⟩

/-- Settles O28: every operation is one of the two forms of the class. -/
theorem alu64Arithmetic : Obligations.Alu64Arithmetic := by
  intro s d r imm hd
  refine ⟨fun hr => ⟨?_, ?_, ?_, ?_, ?_, ?_⟩, fun hr => ⟨?_, ?_, ?_, ?_, ?_, ?_⟩⟩
  · exact alu64K_next (· + ·) hd hr rfl
  · exact alu64K_next (· - ·) hd hr rfl
  · exact alu64K_next (· ||| ·) hd hr rfl
  · exact alu64K_next (· &&& ·) hd hr rfl
  · exact alu64K_next (· ^^^ ·) hd hr rfl
  · exact alu64K_next (· * ·) hd hr rfl
  · exact alu64X_next (· + ·) hd hr rfl
  · exact alu64X_next (· - ·) hd hr rfl
  · exact alu64X_next (· ||| ·) hd hr rfl
  · exact alu64X_next (· &&& ·) hd hr rfl
  · exact alu64X_next (· ^^^ ·) hd hr rfl
  · exact alu64X_next (· * ·) hd hr rfl

end Sys2Proof.Machine

/-! PROOFS. The byte swaps (42_byteswap.md R180 to R191): the bytes of a reversal, and what a byte swap leaves of a
register's bytes on each host. -/

namespace Sys2Proof.Machine

/-! ### The bytes of a reversal (00_scope.md R9) -/

/-- The bytes of `u ++ b`, least significant first: `b`, then those of `u`. -/
theorem bytes_append {w n : Nat} {u : BitVec w} {b : Byte} {f : Nat → Byte} (hb : b = f 0)
    (hu : ∀ k < n, u.extractLsb' (8 * k) 8 = f (k + 1)) :
    ∀ k < n + 1, (u ++ b).extractLsb' (8 * k) 8 = f k
  | 0, _ => BitVec.extractLsb'_append_eq_right.trans hb
  | k + 1, hk => (BitVec.extractLsb'_append_eq_of_le (by omega)).trans (hu k (by omega))

theorem bytes_of_byte {b : Byte} {f : Nat → Byte} (hb : b = f 0) :
    ∀ k < 1, b.extractLsb' (8 * k) 8 = f k
  | 0, _ => BitVec.extractLsb'_eq_self.trans hb

theorem bytes_bswap16 (v : BitVec 16) :
    ∀ k < 2, (bswap16 v).extractLsb' (8 * k) 8 = v.extractLsb' (8 * (2 - 1 - k)) 8 :=
  bytes_append rfl (bytes_of_byte rfl)

theorem bytes_bswap32 (v : Word32) :
    ∀ k < 4, (bswap32 v).extractLsb' (8 * k) 8 = v.extractLsb' (8 * (4 - 1 - k)) 8 :=
  bytes_append rfl (bytes_append rfl (bytes_append rfl (bytes_of_byte rfl)))

theorem bytes_bswap64 (v : Word) :
    ∀ k < 8, (bswap64 v).extractLsb' (8 * k) 8 = v.extractLsb' (8 * (8 - 1 - k)) 8 :=
  bytes_append rfl (bytes_append rfl (bytes_append rfl (bytes_append rfl (bytes_append rfl (bytes_append rfl
    (bytes_append rfl (bytes_of_byte rfl)))))))

/-! ### The low bytes of a zero-extended value -/

theorem toNat_zeroExtended_lt {w : Nat} (hw : w ≤ 64) (u : BitVec w) : (u.setWidth 64).toNat < 2 ^ w := by
  rw [BitVec.toNat_setWidth_of_le hw]
  exact u.isLt

theorem sameBytes_zeroExtended (n : Nat) {w : Nat} (hn : 8 * n ≤ w) (hw : w ≤ 64) (v : Word) :
    sameBytes n v ((v.setWidth w).setWidth 64) := by
  intro k hk
  rw [BitVec.extractLsb'_setWidth_of_le (by omega), BitVec.extractLsb'_setWidth_of_le (by omega)]

/-- A value that reverses the bytes of the low part of `v` still does so once zero-extended. -/
theorem reversedBytes_zeroExtended {n w : Nat} (hn : 8 * n ≤ w) (hw : w ≤ 64) {u : BitVec w} {v : Word}
    (hu : ∀ k < n, u.extractLsb' (8 * k) 8 = (v.setWidth w).extractLsb' (8 * (n - 1 - k)) 8) :
    reversedBytes n v (u.setWidth 64) := by
  intro k hk
  rw [BitVec.extractLsb'_setWidth_of_le (by omega), hu k hk, BitVec.extractLsb'_setWidth_of_le (by omega)]

theorem reversedBytes_bswap16 (v : Word) : reversedBytes 2 v ((bswap16 (v.setWidth 16)).setWidth 64) :=
  reversedBytes_zeroExtended (by decide) (by decide) (bytes_bswap16 _)

theorem reversedBytes_bswap32 (v : Word) : reversedBytes 4 v ((bswap32 (v.setWidth 32)).setWidth 64) :=
  reversedBytes_zeroExtended (by decide) (by decide) (bytes_bswap32 _)

theorem reversedBytes_bswap64 (v : Word) : reversedBytes 8 v (bswap64 v) := bytes_bswap64 v

/-! ### Bytes brought to an order (42_byteswap.md R182) -/

/-- The low `n` bytes of `w` are those of `v` brought from the host's order to `order`, or back: kept where the two
orders agree, reversed where they differ. -/
def broughtToOrder (host order : Endian) (n : Nat) (v w : Word) : Prop :=
  (host = order → sameBytes n v w) ∧ (host ≠ order → reversedBytes n v w)

theorem broughtToOrder_ite {α : Type} (f : α → Word) {host order : Endian} {n : Nat} {v : Word} {kept swapped : α}
    (hkept : sameBytes n v (f kept)) (hswapped : reversedBytes n v (f swapped)) :
    broughtToOrder host order n v (f (if host = order then kept else swapped)) := by
  refine ⟨fun heq => ?_, fun hne => ?_⟩
  · rwa [if_pos heq]
  · rwa [if_neg hne]

theorem broughtToOrder_toOrder16 (host order : Endian) (v : Word) :
    broughtToOrder host order 2 v ((toOrder16 host order (v.setWidth 16)).setWidth 64) :=
  broughtToOrder_ite (BitVec.setWidth 64) (sameBytes_zeroExtended 2 (by decide) (by decide) v)
    (reversedBytes_bswap16 v)

theorem broughtToOrder_toOrder32 (host order : Endian) (v : Word) :
    broughtToOrder host order 4 v ((toOrder32 host order (v.setWidth 32)).setWidth 64) :=
  broughtToOrder_ite (BitVec.setWidth 64) (sameBytes_zeroExtended 4 (by decide) (by decide) v)
    (reversedBytes_bswap32 v)

theorem broughtToOrder_toOrder64 (host order : Endian) (v : Word) :
    broughtToOrder host order 8 v (toOrder64 host order v) :=
  broughtToOrder_ite id (fun _ _ => rfl) (reversedBytes_bswap64 v)

theorem broughtToOrder.little {host : Endian} {n : Nat} {v w : Word} (h : broughtToOrder host .little n v w) :
    (host = .little → sameBytes n v w) ∧ (host = .big → reversedBytes n v w) :=
  ⟨h.1, fun hbig => h.2 (by simp [hbig])⟩

theorem broughtToOrder.big {host : Endian} {n : Nat} {v w : Word} (h : broughtToOrder host .big n v w) :
    (host = .little → reversedBytes n v w) ∧ (host = .big → sameBytes n v w) :=
  ⟨fun hlittle => h.2 (by simp [hlittle]), h.1⟩

/-! ### The instructions -/

/-- Settles O32: the value written is that of the model's `toOrderN` or `bswapN`, zero-extended. -/
theorem byteSwapResult : Obligations.ByteSwapResult := by
  intro s d hd hr
  have hnext (v : Word) : writeResult s d [d] v = .next (wrote s d v 1) := writeResult_next v hd hr
  refine ⟨?le16, ?le32, ?le64, ?be16, ?be32, ?be64, ?bswap16, ?bswap32, ?bswap64⟩
  case le16 => exact ⟨_, hnext _, toNat_zeroExtended_lt (by decide) _, (broughtToOrder_toOrder16 ..).little⟩
  case le32 => exact ⟨_, hnext _, toNat_zeroExtended_lt (by decide) _, (broughtToOrder_toOrder32 ..).little⟩
  case le64 => exact ⟨_, hnext _, BitVec.isLt _, (broughtToOrder_toOrder64 ..).little⟩
  case be16 => exact ⟨_, hnext _, toNat_zeroExtended_lt (by decide) _, (broughtToOrder_toOrder16 ..).big⟩
  case be32 => exact ⟨_, hnext _, toNat_zeroExtended_lt (by decide) _, (broughtToOrder_toOrder32 ..).big⟩
  case be64 => exact ⟨_, hnext _, BitVec.isLt _, (broughtToOrder_toOrder64 ..).big⟩
  case bswap16 =>
    have hrev := reversedBytes_bswap16 (dstVal s d)
    exact ⟨_, hnext _, toNat_zeroExtended_lt (by decide) _, fun _ => hrev, fun _ => hrev⟩
  case bswap32 =>
    have hrev := reversedBytes_bswap32 (dstVal s d)
    exact ⟨_, hnext _, toNat_zeroExtended_lt (by decide) _, fun _ => hrev, fun _ => hrev⟩
  case bswap64 =>
    have hrev := reversedBytes_bswap64 (dstVal s d)
    exact ⟨_, hnext _, BitVec.isLt _, fun _ => hrev, fun _ => hrev⟩

/-- What holds of the value an instruction writes holds of the destination in its next state. -/
theorem dst_of_written {out : Host.Outcome State Fault Refusal} {s : State} {d : Reg} {bound : Nat} {A B : Prop}
    {P Q : Word → Prop}
    (h : ∃ v, out = .next (wrote s d v 1) ∧ v.toNat < bound ∧ (A → P v) ∧ (B → Q v)) :
    ∃ t, out = .next t ∧ (A → P (t.x.get d).val) ∧ (B → Q (t.x.get d).val) := by
  obtain ⟨v, hout, -, hP, hQ⟩ := h
  refine ⟨_, hout, ?_⟩
  rw [val_wrote]
  exact ⟨hP, hQ⟩

/-- Settles O33: the values written by the instructions of O32, read back from the destination. -/
theorem byteSwapDependsOnHost : Obligations.ByteSwapDependsOnHost := by
  intro s d hd hr
  obtain ⟨hle16, hle32, hle64, hbe16, hbe32, hbe64, hbswap16, hbswap32, hbswap64⟩ := byteSwapResult s d hd hr
  exact ⟨dst_of_written hle16, dst_of_written hle32, dst_of_written hle64, dst_of_written hbe16,
    dst_of_written hbe32, dst_of_written hbe64, dst_of_written hbswap16, dst_of_written hbswap32,
    dst_of_written hbswap64⟩

end Sys2Proof.Machine

/-! PROOFS. Jumps, calls and returns (43_jump.md R200 to R256; 43_jump_cond.md R205 to R248): what each shared operation
of control flow leaves, and what a caller sees of a call and its return. -/

namespace Sys2Proof.Machine

/-! ### Program-local calls -/

theorem depthReached_of_le {s : State} {n : Nat} (hmax : s.cfg.maxCallDepth = some n) (h : n ≤ s.callstack.length) :
    depthReached s = true := by
  simp [depthReached, hmax, h]

theorem callLocal_tooDeep {s : State} (disp : Int) (h : depthReached s = true) :
    callLocal disp s = .next (raise s (.callDepth s.pc)) := by
  simp [callLocal, settle, h]

/-- A program-local call that did not fault entered the callee. -/
theorem callLocal_running {s t : State} {disp : Int} (h : callLocal disp s = .next t) (ht : t.status = .running) :
    t = enterCallee s disp := by
  have hok := ok_of_settle_running h ht
  split at hok
  · cases hok
  · cases hok
    rfl

/-- Settles O20: `callLocal` enters the callee below the greatest depth and faults from it on. -/
theorem callLocalResult : Obligations.CallLocalResult := by
  intro s imm
  refine ⟨fun hbelow => ?_, fun n hmax hle => ?_⟩
  · exact callLocal_next imm.toInt (depthReached_eq_false.2 hbelow)
  · exact callLocal_tooDeep imm.toInt (depthReached_of_le hmax hle)

/-! ### EXIT -/

/-- With no call active, EXIT reads `x[0]` and ends the program (43_jump.md R256). -/
theorem exitOrReturn_outermost {s : State} (h : s.callstack = []) :
    exitOrReturn s = settle s (guardRead s [.r0] (.ok { s with status := .exited (r0Val s) })) := by
  simp [exitOrReturn, h]

theorem exitOrReturn_ends {s : State} (h : s.callstack = []) (hread : Readable s [.r0]) :
    exitOrReturn s = .next { s with status := .exited (r0Val s) } := by
  rw [exitOrReturn_outermost h, guardRead_of_readable hread]
  rfl

theorem exitOrReturn_unwritten {s : State} (h : s.callstack = []) (hraise : s.cfg.unwrittenRaises = true)
    (hw : s.x.r0.written = false) : exitOrReturn s = .next (raise s (.unwrittenRegister s.pc .r0)) := by
  have hfault : readFault s [.r0] = some (.unwrittenRegister s.pc .r0) := by
    refine readFault_lowest hraise (List.mem_singleton.2 rfl) hw fun q hq _ => ?_
    rw [List.mem_singleton.1 hq]
  rw [exitOrReturn_outermost h, guardRead_of_fault hfault]
  rfl

/-- With a call active, EXIT pops the innermost frame and restores from it (43_jump.md R256). -/
theorem exitOrReturn_returns {s : State} {rest : List Frame} {f : Frame} (h : s.callstack = rest ++ [f]) :
    exitOrReturn s = .next { s with x := callerRegs s.x f, callstack := rest, pc := f.ret } := by
  simp [exitOrReturn, settle, returnTo, h]

/-- Settles O22, by the call stack: empty, with `x[0]` readable or not, or with an innermost frame. -/
theorem exitResult : Obligations.ExitResult := fun _ =>
  ⟨exitOrReturn_ends, exitOrReturn_unwritten, fun _ _ => exitOrReturn_returns⟩

/-! ### A call and its return -/

/-- A return restores none of `x[1]` to `x[5]`: its frame holds `x[6]` to `x[10]` (43_jump.md R255). -/
theorem callerRegs_written (x : RegFile) (f : Frame) {r : Reg} (hr : r ∈ [Reg.r1, .r2, .r3, .r4, .r5]) :
    ((callerRegs x f).get r).written = false := by
  simp only [List.mem_cons, List.not_mem_nil, or_false] at hr
  rcases hr with rfl | rfl | rfl | rfl | rfl <;> rfl

/-- Settles O21: the call left its frame innermost on the call stack, and EXIT returns to that frame. -/
theorem callThenReturnRestores : Obligations.CallThenReturnRestores := by
  intro s t u imm _ hcall ht hstack
  have hentered : t = enterCallee s imm.toInt := callLocal_running hcall ht
  have hframe : u.callstack = s.callstack ++ [callFrame s] := by
    rw [hstack, hentered, enterCallee_callstack]
  exact ⟨_, exitOrReturn_returns hframe, rfl, rfl, rfl, rfl, rfl, rfl, rfl, rfl, rfl, rfl,
    fun _ hr => callerRegs_written u.x (callFrame s) hr⟩

/-! ### Helper calls -/

theorem callHelper_exposed {s : State} {kind : HelperKind} {id : Word32} (h : (kind, id) ∈ s.cfg.helpers) :
    callHelper kind id s = .next (helperResult s kind id) := by
  rw [callHelper, if_pos (List.contains_iff_mem.2 h), helperResult]
  cases Config.helperCall s.tick kind id (helperArgs s.x) s.mem with
  | returns result writes => rfl
  | faults code => rfl
  | stillRunning => rfl

theorem callHelper_unknown {s : State} {kind : HelperKind} {id : Word32} (h : (kind, id) ∉ s.cfg.helpers) :
    callHelper kind id s = .next (raise s (.unknownHelper s.pc kind id)) := by
  rw [callHelper, if_neg (mt List.contains_iff_mem.1 h)]
  rfl

/-- Settles O23: both helper calls are `callHelper`, which asks whether the platform exposes the helper. -/
theorem helperCallResult : Obligations.HelperCallResult := fun _ _ =>
  ⟨callHelper_exposed, callHelper_exposed, callHelper_unknown, callHelper_unknown⟩

/-! ### Jumps -/

theorem settle_jumpBy (s : State) (k : Int) : settle s (.ok (jumpBy s k)) = .next { s with pc := s.pc + 1 + k } :=
  rfl

/-- Settles O34: each instruction is `jumpBy` with its own field as the displacement. -/
theorem jumpResult : Obligations.JumpResult := fun s off imm =>
  ⟨settle_jumpBy s off.toInt, settle_jumpBy s imm.toInt⟩

section Conditional

variable {s : State} {d r : Reg} {imm : Word32} {off : Word16}

theorem jump64K_next (c : Word → Word → Bool) (hr : Readable s [d]) :
    jump64K c d imm off s = .next (branched s off (c (dstVal s d) (imm.signExtend 64))) :=
  jumpIf_next _ off hr

theorem jump64X_next (c : Word → Word → Bool) (hr : Readable s [d, r]) :
    jump64X c d r off s = .next (branched s off (c (dstVal s d) (srcVal s r))) :=
  jumpIf_next _ off hr

theorem jump32K_next (c : Word32 → Word32 → Bool) (hr : Readable s [d]) :
    jump32K c d imm off s = .next (branched s off (c ((dstVal s d).setWidth 32) imm)) :=
  jumpIf_next _ off hr

theorem jump32X_next (c : Word32 → Word32 → Bool) (hr : Readable s [d, r]) :
    jump32X c d r off s = .next (branched s off (c ((dstVal s d).setWidth 32) ((srcVal s r).setWidth 32))) :=
  jumpIf_next _ off hr

end Conditional

/-- Settles O35: each jump is one of the two forms of class JMP, with its comparison. -/
theorem conditionalJump64 : Obligations.ConditionalJump64 := by
  intro s d r imm off
  refine ⟨fun hr => ?immediate, fun hr => ?register⟩
  case immediate =>
    have jump (c : Word → Word → Bool) := jump64K_next (imm := imm) (off := off) c hr
    exact ⟨jump condEq, jump condGt, jump condGe, jump condSet, jump condNe, jump condSgt, jump condSge, jump condLt,
      jump condLe, jump condSlt, jump condSle⟩
  case register =>
    have jump (c : Word → Word → Bool) := jump64X_next (off := off) c hr
    exact ⟨jump condEq, jump condGt, jump condGe, jump condSet, jump condNe, jump condSgt, jump condSge, jump condLt,
      jump condLe, jump condSlt, jump condSle⟩

/-- Settles O36: each jump is one of the two forms of class JMP32, with its comparison. -/
theorem conditionalJump32 : Obligations.ConditionalJump32 := by
  intro s d r imm off
  refine ⟨fun hr => ?immediate, fun hr => ?register⟩
  case immediate =>
    have jump (c : Word32 → Word32 → Bool) := jump32K_next (imm := imm) (off := off) c hr
    exact ⟨jump condEq, jump condGt, jump condGe, jump condSet, jump condNe, jump condSgt, jump condSge, jump condLt,
      jump condLe, jump condSlt, jump condSle⟩
  case register =>
    have jump (c : Word32 → Word32 → Bool) := jump32X_next (off := off) c hr
    exact ⟨jump condEq, jump condGt, jump condGe, jump condSet, jump condNe, jump condSgt, jump condSge, jump condLt,
      jump condLe, jump condSlt, jump condSle⟩

end Sys2Proof.Machine

/-! PROOFS. Loads and stores (44_load_store.md R260 to R277): what an aligned and admitted load or store leaves, and
where mode MEMSX stands for no instruction. -/

namespace Sys2Proof.Machine

/-! ### An access that passes both checks -/

section Accessible

variable {s : State} {d r : Reg} {rs : List Reg} {off : Word16} {addr : Word} {n : Nat}

theorem plainMisaligned_of_aligned {kind : AccessKind} (hk : kind ≠ .atomic) (h : aligned s kind addr n) :
    plainMisaligned s addr n = false :=
  Bool.eq_false_iff.2 fun hm => (plainMisaligned_iff hk).1 hm h

theorem load_of_accessible (ext : Word → Word) (hd : d ≠ .r10) (hr : Readable s [r])
    (h : Accessible s .read (loadAddr s r off) n) :
    load n ext d r off s = .next (wrote s d (ext (valueAt s (loadAddr s r off) n)) 1) := by
  obtain ⟨halign, hadmit⟩ := h
  exact load_next n ext hd hr (plainMisaligned_of_aligned (by decide) halign) hadmit

theorem store_of_accessible (v : Word) (hr : Readable s rs) (h : Accessible s .write addr n) :
    store n rs addr v s = .next (stored s addr n v) := by
  obtain ⟨halign, hadmit⟩ := h
  exact store_next n v hr (plainMisaligned_of_aligned (by decide) halign) hadmit

end Accessible

/-! ### Mode MEMSX -/

/-- Mode 4, MEMSX, has its only instructions in class LDX with a size other than DW: 2 is class ST, 3 is class STX, and
1 with size 3 is class LDX with DW. -/
theorem noInstr_of_memsx {f : Fields} (hmode : f.mode = 4) (hf : f.cls = 2 ∨ f.cls = 3 ∨ (f.cls = 1 ∧ f.size = 3)) :
    f.noInstr = true := by
  rcases hf with hst | hstx | ⟨hldx, hdw⟩
  · simp [Fields.noInstr, hst, hmode]
  · simp [Fields.noInstr, hstx, hmode]
  · simp [Fields.noInstr, hldx, hmode, hdw]

/-! ### The instructions -/

/-- Settles O38: the three loads extend what `load` reads from their own width, and each other encoding of the mode is
an opcode byte without an instruction. -/
theorem signExtendingLoads : Obligations.SignExtendingLoads := by
  refine ⟨fun s d r off hd hr => ⟨?byte, ?half, ?word⟩, ?refused⟩
  case byte => exact load_of_accessible (signExtendFrom 8) hd hr
  case half => exact load_of_accessible (signExtendFrom 16) hd hr
  case word => exact load_of_accessible (signExtendFrom 32) hd hr
  case refused =>
    intro strict f second hmode hf
    exact decodeFields_reserved strict second (noInstr_of_memsx hmode hf)

/-- Settles O37: a load at each width writes the value read as it is. -/
theorem loadResult : Obligations.LoadResult := by
  intro s d r off hd hr
  have hload (n : Nat) := load_of_accessible (off := off) (n := n) (fun v => v) hd hr
  exact ⟨hload 1, hload 2, hload 4, hload 8⟩

/-- Settles O39: a store at each width, of the immediate and of the register. -/
theorem storeResult : Obligations.StoreResult := by
  intro s d r imm off
  refine ⟨fun hr => ?immediate, fun hr => ?register⟩
  case immediate =>
    have hstore (n : Nat) := store_of_accessible (addr := storeAddr s d off) (n := n) (immWord imm) hr
    exact ⟨hstore 1, hstore 2, hstore 4, hstore 8⟩
  case register =>
    have hstore (n : Nat) := store_of_accessible (addr := storeAddr s d off) (n := n) (srcVal s r) hr
    exact ⟨hstore 1, hstore 2, hstore 4, hstore 8⟩

end Sys2Proof.Machine

/-! PROOFS. The atomic operations (45_atomic.md R281 to R303): what an aligned and admitted one leaves, and that a value
read and written back changes no byte (20_memory.md R52, log 22). -/

namespace Sys2Proof

/-! ### A value back to its bytes -/

theorem leBytes_leValue {bs : List Byte} (h : bs.length ≤ 8) : leBytes bs.length (leValue bs) = bs := by
  refine List.ext_getElem? fun k => ?_
  by_cases hk : k < bs.length
  · have hb : bs[k]? = some bs[k] := List.getElem?_eq_getElem hk
    rw [leBytes_getElem? _ hk, extractLsb'_leValue (by omega) hb, hb]
  · rw [List.getElem?_eq_none (by simpa using hk), List.getElem?_eq_none (by simpa using hk)]

/-- The host bytes of the value of up to eight bytes are those bytes (20_memory.md R44, R45). -/
theorem hostBytes_hostValue (e : Endian) {bs : List Byte} (h : bs.length ≤ 8) :
    hostBytes e bs.length (hostValue e bs) = bs := by
  cases e with
  | little => exact leBytes_leValue h
  | big =>
    have hrev := leBytes_leValue (bs := bs.reverse) (by simpa using h)
    rw [List.length_reverse] at hrev
    rw [hostBytes, hostValue, hrev, List.reverse_reverse]

end Sys2Proof

namespace Sys2Proof.Machine

/-! ### Writing back what was read -/

section WriteBack

variable {s : State} {addr : Word} {n : Nat}

theorem storeAt_valueAt_mem (hn : n ≤ 8) :
    (storeAt s addr n (valueAt s addr n)).mem = s.mem.putBytes addr (bytesAt s addr n) := by
  have hbytes := hostBytes_hostValue s.cfg.hostEndian (bs := bytesAt s addr n) (by simpa using hn)
  rw [bytesAt_length] at hbytes
  rw [storeAt_mem, valueAt, hbytes]

/-- Storing the value of unshared bytes back to them leaves every byte reading as before. -/
theorem byteAt_storeAt_valueAt (hn : n ≤ 8) (hw : addr.toNat + n ≤ 2 ^ 64) (hp : privateRange s addr n) (a : Nat) :
    byteAt (storeAt s addr n (valueAt s addr n)) a = byteAt s a := by
  by_cases ha : inRange addr n a
  · obtain ⟨i, rfl⟩ := Nat.exists_eq_add_of_le ha.1
    have hi : i < n := Nat.lt_of_add_lt_add_left ha.2
    have hread := byteAt_of_putBytes (i := i) (storeAt_valueAt_mem (s := s) (addr := addr) hn) (by simpa using hw)
      (by rw [bytesAt_length]; exact hp) (by simpa using hi)
    simp [hread, bytesAt_eq_map hw]
  · exact byteAt_congr (get?_putBytes_of_not_inRange s.mem s.cfg.hostEndian _ hw ha) rfl rfl

end WriteBack

/-! ### An atomic access that passes both checks -/

section Accessible

variable {s : State} {d r : Reg} {off : Word16} {n : Nat}

theorem atomicPlain_of_accessible (f : Word → Word → Word) (hr : Readable s [d, r])
    (h : Accessible s .atomic (storeAddr s d off) n) :
    atomicPlain n f d r off s =
      .next (stored s (storeAddr s d off) n (f (valueAt s (storeAddr s d off) n) (srcVal s r))) := by
  obtain ⟨halign, hadmit⟩ := h
  exact atomicPlain_next n f hr (aligned_atomic_iff.1 halign) hadmit

theorem atomicFetch_of_accessible (f : Word → Word → Word) (hd : r ≠ .r10) (hr : Readable s [d, r])
    (h : Accessible s .atomic (storeAddr s d off) n) :
    atomicFetch n f d r off s =
      .next (wrote (storeAt s (storeAddr s d off) n (f (valueAt s (storeAddr s d off) n) (srcVal s r))) r
        (valueAt s (storeAddr s d off) n) 1) := by
  obtain ⟨halign, hadmit⟩ := h
  exact atomicFetch_next n f hd hr (aligned_atomic_iff.1 halign) hadmit

theorem atomicCmpxchg_of_match (cmp : Word → Word → Bool) (hr : Readable s [d, r, .r0])
    (h : Accessible s .atomic (storeAddr s d off) n)
    (hc : cmp (valueAt s (storeAddr s d off) n) (r0Val s) = true) :
    atomicCmpxchg n cmp d r off s =
      .next (wrote (storeAt s (storeAddr s d off) n (srcVal s r)) .r0 (valueAt s (storeAddr s d off) n) 1) := by
  obtain ⟨halign, hadmit⟩ := h
  rw [atomicCmpxchg_next n cmp hr (aligned_atomic_iff.1 halign) hadmit, if_pos hc]

theorem atomicCmpxchg_of_mismatch (cmp : Word → Word → Bool) (hr : Readable s [d, r, .r0])
    (h : Accessible s .atomic (storeAddr s d off) n)
    (hc : cmp (valueAt s (storeAddr s d off) n) (r0Val s) = false) :
    atomicCmpxchg n cmp d r off s =
      .next (wrote (storeAt s (storeAddr s d off) n (valueAt s (storeAddr s d off) n)) .r0
        (valueAt s (storeAddr s d off) n) 1) := by
  obtain ⟨halign, hadmit⟩ := h
  rw [atomicCmpxchg_next n cmp hr (aligned_atomic_iff.1 halign) hadmit, if_neg (Bool.eq_false_iff.1 hc)]

end Accessible

/-! ### The instructions -/

/-- Settles O44: the two widths differ in the comparison, and a failed one writes back what it read. -/
theorem compareExchangeResult : Obligations.CompareExchangeResult := by
  intro s d r off hr
  refine ⟨fun h => ⟨fun heq => ?match32, fun hne => ?mismatch32⟩,
    fun h => ⟨fun heq => ?match64, fun hne => ?mismatch64⟩, fun addr n hn hw hp a => ?writeBack⟩
  case match32 => exact atomicCmpxchg_of_match (fun old r0 => lo32 old == lo32 r0) hr h (beq_iff_eq.2 heq)
  case mismatch32 =>
    exact atomicCmpxchg_of_mismatch (fun old r0 => lo32 old == lo32 r0) hr h (beq_eq_false_iff_ne.2 hne)
  case match64 => exact atomicCmpxchg_of_match (· == ·) hr h (beq_iff_eq.2 heq)
  case mismatch64 => exact atomicCmpxchg_of_mismatch (· == ·) hr h (beq_eq_false_iff_ne.2 hne)
  case writeBack =>
    have hn8 : n ≤ 8 := by
      simp only [List.mem_cons, List.not_mem_nil, or_false] at hn
      omega
    exact byteAt_storeAt_valueAt hn8 hw hp a

/-- Settles O42: each operation is the one form of the atomics without FETCH, with its function and width. -/
theorem atomicResult : Obligations.AtomicResult := by
  intro s d r off hr
  have hplain (n : Nat) (f : Word → Word → Word) := atomicPlain_of_accessible (off := off) (n := n) f hr
  exact ⟨hplain 4 fun old v => zext32 (lo32 old + lo32 v), hplain 4 fun old v => zext32 (lo32 old ||| lo32 v),
    hplain 4 fun old v => zext32 (lo32 old &&& lo32 v), hplain 4 fun old v => zext32 (lo32 old ^^^ lo32 v),
    hplain 8 (· + ·), hplain 8 (· ||| ·), hplain 8 (· &&& ·), hplain 8 (· ^^^ ·)⟩

/-- Settles O43: each operation is the one form of the atomics with FETCH, with its function and width; XCHG ignores
the old value. -/
theorem atomicFetchResult : Obligations.AtomicFetchResult := by
  intro s d r off hd hr
  have hfetch (n : Nat) (f : Word → Word → Word) := atomicFetch_of_accessible (off := off) (n := n) f hd hr
  exact ⟨hfetch 4 fun old v => zext32 (lo32 old + lo32 v), hfetch 4 fun old v => zext32 (lo32 old ||| lo32 v),
    hfetch 4 fun old v => zext32 (lo32 old &&& lo32 v), hfetch 4 fun old v => zext32 (lo32 old ^^^ lo32 v),
    hfetch 8 (· + ·), hfetch 8 (· ||| ·), hfetch 8 (· &&& ·), hfetch 8 (· ^^^ ·), hfetch 4 fun _ v => v,
    hfetch 8 fun _ v => v⟩

end Sys2Proof.Machine

/-! PROOFS. The 64-bit immediate instructions (46_imm64.md R306 to R316): what each writes when the platform binds its
argument, and the fault it takes when it does not (decision D21). -/

namespace Sys2Proof.Machine

/-! ### Writing a platform object -/

section PlatformObject

variable {s : State} {d : Reg} (hd : d ≠ .r10) (kind : ObjectKind) (imm : Word32)
include hd

theorem writeObject_of_bound {v : Option Word} {a : Word} (h : v = some a) :
    writeObject s d kind imm v = .next (wrote s d a 2) := by
  rw [h, writeObject_next kind imm a hd]

theorem writeObject_of_undefined {v : Option Word} (h : v = none) :
    writeObject s d kind imm v = .next (raise s (.unknownObject s.pc kind imm)) := by
  rw [h, writeObject, guardWrite_of_ne hd]
  rfl

/-- `map_val` of a map, however the map was found, plus the unsigned `next_imm` (46_imm64.md R312, R316). -/
theorem writeObject_mapVal_of_bound {map : Option Word} {m a : Word} (next : Word32) (hm : map = some m)
    (ha : lookup s.cfg.mapVals m = some a) :
    writeObject s d kind imm ((map.bind (lookup s.cfg.mapVals)).map fun v => v + zext32 next) =
      .next (wrote s d (a + zext32 next) 2) :=
  writeObject_of_bound hd kind imm (by rw [hm, Option.bind_some, ha, Option.map_some])

/-- The two ways `map_val` is undefined: no such map, and a map with no value region (46_imm64.md R307). -/
theorem writeObject_mapVal_of_undefined {map : Option Word} (next : Word32)
    (h : ∀ m, map = some m → lookup s.cfg.mapVals m = none) :
    writeObject s d kind imm ((map.bind (lookup s.cfg.mapVals)).map fun v => v + zext32 next) =
      .next (raise s (.unknownObject s.pc kind imm)) :=
  writeObject_of_undefined hd kind imm (by rw [Option.map_eq_none_iff, Option.bind_eq_none_iff]; exact h)

end PlatformObject

/-! ### `code_addr` -/

theorem codeAddr_of_inside {s : State} {slot : Int} (h0 : 0 ≤ slot) (hlen : slot < s.prog.length) :
    codeAddr s slot = lookup s.cfg.codeAddrs slot.toNat :=
  if_pos ⟨h0, hlen⟩

/-- `code_addr` is undefined on either side of the program, and inside it where the platform binds nothing
(46_imm64.md R307; log 11). -/
theorem codeAddr_eq_none_iff {s : State} {slot : Int} :
    codeAddr s slot = none ↔
      slot < 0 ∨ (s.prog.length : Int) ≤ slot ∨ lookup s.cfg.codeAddrs slot.toNat = none := by
  by_cases h : 0 ≤ slot ∧ slot < s.prog.length
  · obtain ⟨h0, hlen⟩ := h
    simp [codeAddr_of_inside h0 hlen, h0.not_gt, hlen.not_ge]
  · have hout : slot < 0 ∨ (s.prog.length : Int) ≤ slot := by omega
    rw [codeAddr, if_neg h, ← or_assoc]
    exact iff_of_true rfl (.inl hout)

/-! ### The instructions -/

/-- Settles O45: the constant is always bound; each of the others writes what its platform function gives. -/
theorem imm64Result : Obligations.Imm64Result := by
  intro s d imm next hd
  refine ⟨?constant, fun _ h => ?mapFd, fun _ _ hm ha => ?mapValFd, fun _ h => ?varAddr,
    fun _ h0 hlen h => ?codeAddr, fun _ h => ?mapIdx, fun _ _ hm ha => ?mapValIdx⟩
  case constant => exact writeObject_next .code 0#32 (next ++ imm) hd
  case mapFd => exact writeObject_of_bound hd .mapFd imm h
  case mapValFd => exact writeObject_mapVal_of_bound hd .mapFd imm next hm ha
  case varAddr => exact writeObject_of_bound hd .variableId imm h
  case codeAddr => exact writeObject_of_bound hd .code imm ((codeAddr_of_inside h0 hlen).trans h)
  case mapIdx => exact writeObject_of_bound hd .mapIndex imm h
  case mapValIdx => exact writeObject_mapVal_of_bound hd .mapIndex imm next hm ha

/-- Settles O46: the fault is raised wherever the platform function is undefined, and names its kind of object. -/
theorem unknownObjects : Obligations.UnknownObjects := by
  intro s d imm next hd
  refine ⟨fun h => ⟨?mapFd, ?mapValFd⟩, fun m hm hv => ?valueFd, fun h => ?varAddr, fun h => ?codeAddr,
    fun h => ⟨?mapIdx, ?mapValIdx⟩, fun m hm hv => ?valueIdx⟩
  case mapFd => exact writeObject_of_undefined hd .mapFd imm h
  case mapValFd => exact writeObject_mapVal_of_undefined hd .mapFd imm next (by simp [h])
  case valueFd => exact writeObject_mapVal_of_undefined hd .mapFd imm next (by simp [hm, hv])
  case varAddr => exact writeObject_of_undefined hd .variableId imm h
  case codeAddr => exact writeObject_of_undefined hd .code imm (codeAddr_eq_none_iff.2 h)
  case mapIdx => exact writeObject_of_undefined hd .mapIndex imm h
  case mapValIdx => exact writeObject_mapVal_of_undefined hd .mapIndex imm next (by simp [h])
  case valueIdx => exact writeObject_mapVal_of_undefined hd .mapIndex imm next (by simp [hm, hv])

end Sys2Proof.Machine

/-! PROOFS. The legacy packet instructions (47_legacy_packet.md R331 to R337): each comes to one fault (decision D22). -/

namespace Sys2Proof.Machine

/-- An effect that is a fault leaves the state with that fault as its status (60_exceptions.md R340). -/
theorem settle_error (s : State) (f : RunFault) : settle s (.error f) = .next { s with status := .faulted f } := by
  rw [settle, finish_error, raise]

/-- Settles O47: each of the six settles the same fault, whatever its operands. -/
theorem packetInstructionsRaiseUnmodelled : Obligations.PacketInstructionsRaiseUnmodelled := by
  intro s r imm
  have hraise := settle_error s (.unmodelled s.pc)
  refine ⟨?ldAbsW, ?ldAbsH, ?ldAbsB, ?ldIndW, ?ldIndH, ?ldIndB⟩
  case ldAbsW | ldAbsH | ldAbsB | ldIndW | ldIndH | ldIndB => exact hraise

end Sys2Proof.Machine

/-! PROOFS. One step as a whole (60_exceptions.md R340, R346, R355): which states have a step, what it runs, and how it
can end the run. -/

namespace Sys2Proof.Machine

/-! ### Which states have a step, and what it runs -/

theorem step_of_fetch_ok {s : State} {i : Instr} (hs : s.status = .running) (h : fetch s = .ok i) :
    step s = bumpOutcome (exec i s) := by
  simp [step, hs, h]

/-- Settles O12: the hypotheses are those under which fetch answers the instruction. -/
theorem stepRunsDecodedInstruction : Obligations.StepRunsDecodedInstruction := by
  intro s w i hs hv hw hd hi
  have hfetch : fetch s = .ok i := (fetch_decoded hv hw hd).trans (if_pos hi)
  rw [step_of_fetch_ok hs hfetch]
  cases exec i s with
  | next | fault | refused => rfl

/-- A running instance steps: a fault of fetch is a next state, and so is whatever an instruction does. -/
theorem exists_step_next {s : State} (hs : s.status = .running) : ∃ t, step s = .next t := by
  cases hf : fetch s with
  | error f => exact ⟨_, step_of_fetch_error hs hf⟩
  | ok i =>
    obtain ⟨t, ht, -⟩ := exec_does i s
    exact ⟨bump t, by rw [step_of_fetch_ok hs hf, ht, bumpOutcome]⟩

theorem step_of_not_running {s : State} (hs : s.status ≠ .running) : step s = .fault .stopped := by
  unfold step
  split
  · exact absurd ‹_› hs
  · rfl
  · rfl

/-- Settles O15: a running instance always steps, and a next state comes from a running instance only. -/
theorem stepAnswersFromRunningOnly : Obligations.StepAnswersFromRunningOnly := fun _ =>
  ⟨⟨exists_step_next, fun ⟨_, h⟩ => running_of_step_next h⟩, step_of_not_running⟩

/-! ### How a step can end the run -/

/-- An instruction leaves the status alone, or changes it and nothing else: by a fault, or by the outermost EXIT. -/
theorem Does.status_cases {s t : State} {i : Instr} (h : Does s i t) :
    t.status = s.status ∨ (∃ f, t = raise s f) ∨
      (i = .exit ∧ s.callstack = [] ∧ t = { s with status := .exited (r0Val s) }) := by
  cases h with
  | raises f => exact .inr (.inl ⟨f, rfl⟩)
  | exits hi hstack => exact .inr (.inr ⟨hi, hstack, rfl⟩)
  | _ => exact .inl rfl

/-- A step goes on running, or changes only the status and the counter: by a fault, of fetch or of the instruction, or
by the outermost EXIT. -/
theorem step_status_cases {s t : State} (h : step s = .next t) :
    t.status = .running ∨ (∃ f, t = bump (raise s f)) ∨
      (fetch s = .ok .exit ∧ s.callstack = [] ∧ t = bump { s with status := .exited (r0Val s) }) := by
  rcases step_next_cases h with ⟨f, -, rfl⟩ | ⟨i, u, hi, hu, rfl⟩
  · exact .inr (.inl ⟨f, rfl⟩)
  · rcases (does_of_exec hu).status_cases with hsame | ⟨f, rfl⟩ | ⟨rfl, hstack, rfl⟩
    · exact .inl (hsame.trans (running_of_step_next h))
    · exact .inr (.inl ⟨f, rfl⟩)
    · exact .inr (.inr ⟨hi, hstack, rfl⟩)

/-- Settles O16: of the ways a step can end, only a raised fault leaves the status Faulted. -/
theorem faultsArePrecise : Obligations.FaultsArePrecise := by
  intro s t f h ht
  rcases step_status_cases h with hrun | ⟨g, rfl⟩ | ⟨-, -, rfl⟩
  · rw [hrun] at ht; cases ht
  · cases ht; rfl
  · cases ht

/-- Settles O17: of the ways a step can end, only the outermost EXIT leaves the status Exited. -/
theorem onlyExitEndsARun : Obligations.OnlyExitEndsARun := by
  intro s t v h ht
  rcases step_status_cases h with hrun | ⟨g, rfl⟩ | ⟨hfetch, hstack, rfl⟩
  · rw [hrun] at ht; cases ht
  · cases ht
  · cases ht
    exact ⟨hfetch, hstack, rfl, rfl⟩

end Sys2Proof.Machine
